-- ==== Sys2Proof/Word.lean ====
section
/-! DEFINITION. The words of the block's ports (R39, R40, R62, R80). A single bit is a `Bool`: `true` is 1. -/

namespace Sys2Proof

/-- The word on the command port `cmd[3:0]` (R80). -/
abbrev Cmd := BitVec 4

/-- The response code port `rsp_code[1:0]` (R84). -/
abbrev RspCode := BitVec 2

/-- The response data port `rsp_data[15:0]`; also the STATUS word (R37, R85). -/
abbrev Data := BitVec 16

/-- The drive enables of the four MCU-side SPI pins: bit 0 clock, 1 MOSI, 2 MISO, 3 chip-select (R24). -/
abbrev PinMask := BitVec 4

/-- One byte: the whole-byte form in which a table word is handed to the decoder. -/
abbrev Byte := BitVec 8

end Sys2Proof
end

