-- ==== Sys2Proof/Config.lean ====
section
/-! DEFINITION. The implementation parameters (`00_scope.md` R7 to R11) and the free values: what the spec leaves OPEN
is an opaque constant, built so that every admissible value and no other is covered (log 2); what agents outside the
block choose is an opaque function of the tick's number (log 3). -/

namespace Sys2Proof

/-- The record `Params` of `00_scope.md` section 4. `N_SPI_PINS = 4` and `MON_EDGE = falling` are fixed by the spec and
stand in `PinMask` and in the edge detector. -/
structure Params where
  /-- `T_TICK_NS`, the clock period in nanoseconds (R7). -/
  tickNs : Nat
  /-- `SETTLE_TICKS` (R8). -/
  settleTicks : Nat
  /-- `PULSE_TICKS` (R9). -/
  pulseTicks : Nat
  /-- `TIMEOUT_TICKS`: `none` is `INF`, the baseline; `some n` the hardened variant (R10). -/
  timeoutTicks : Option Nat
  /-- `DONE_TRUE_LEVEL` (R11). -/
  doneTrueLevel : Bool
  /-- `DRIVE_EN_ACTIVE_LEVEL` (R11). -/
  driveEnActiveLevel : Bool
  /-- `MODE_SEL_WIDTH` (R11). -/
  modeSelWidth : Nat
  /-- `MODE_SEL_SPI_VALUE` (R11). -/
  modeSelSpiValue : BitVec modeSelWidth
  /-- `STARTUP_TICKS`, read by the host program only (R11, R212). -/
  startupTicks : Nat
  /-- `TIMER_WIDTH`, the counters' width in a gate-level build (R11). -/
  timerWidth : Nat
  /-- `HAS_INDICATOR` (R11, R132). -/
  hasIndicator : Bool
  deriving DecidableEq, Repr

/-- The largest number a counter is compared with (R11, the constraint on `TIMER_WIDTH`). -/
def Params.maxCount (p : Params) : Nat :=
  max (max p.settleTicks p.pulseTicks) (p.timeoutTicks.getD 0)

namespace Config

/-- Free: `T_TICK_NS` less 1 (R7). -/
opaque tickSlack : Nat
/-- Free: how far `SETTLE_TICKS` lies above its bound (R8). -/
opaque settleSlack : Nat
/-- Free: how far `PULSE_TICKS` lies above its bound (R9). -/
opaque pulseSlack : Nat
/-- Free: `none` for the baseline, else `TIMEOUT_TICKS` less 1 (R10). -/
opaque timeoutSlack : Option Nat
/-- Free: `DRIVE_EN_ACTIVE_LEVEL` (R11). -/
opaque driveEnActiveLevel : Bool
/-- Free: `MODE_SEL_WIDTH` less 1 (R11). -/
opaque modeSelSlack : Nat
/-- Free: `MODE_SEL_SPI_VALUE` (R11). -/
opaque modeSelSpiValue : BitVec (modeSelSlack + 1)
/-- Free: `STARTUP_TICKS` (R11). -/
opaque startupTicks : Nat
/-- Free: how far `TIMER_WIDTH` lies above the least width that fits (R11). -/
opaque timerWidthSlack : Nat

/-- Free: the level of `rst` in tick `n`, past the laid-down trace (R172). -/
opaque freeRst : Nat → Bool
/-- Free: the level of `cmd_valid` in tick `n`, past the laid-down trace (R172). -/
opaque freeCmdValid : Nat → Bool
/-- Free: the word on `cmd` in tick `n`, past the laid-down trace (R172). -/
opaque freeCmd : Nat → Cmd
/-- Free: the level of `done_in` in tick `n`, past the laid-down trace (R172, U7). -/
opaque freeDoneIn : Nat → Bool

/-- `T_TICK_NS`: any positive integer (R7). -/
def tickNs : Nat := tickSlack + 1

/-- The least number of ticks that lasts `ns` nanoseconds (R8, R9). -/
def ticksFor (ns : Nat) : Nat := (ns + tickNs - 1) / tickNs

/-- `SETTLE_TICKS`: any count of at least 1 ms (R8). -/
def settleTicks : Nat := ticksFor 1000000 + settleSlack

/-- `PULSE_TICKS`: any count of at least 50 µs (R9). -/
def pulseTicks : Nat := ticksFor 50000 + pulseSlack

/-- `TIMEOUT_TICKS`: `INF` or any integer of at least 1 (R10). -/
def timeoutTicks : Option Nat := timeoutSlack.map (· + 1)

/-- `TIMER_WIDTH`: any width in which every count fits (R11). -/
def timerWidth : Nat :=
  Nat.log2 (max (max settleTicks pulseTicks) (timeoutTicks.getD 0)) + 1 + timerWidthSlack

/-- The parameters of this hardware: the OPEN ones free within their constraints, the decided ones
(`DONE_TRUE_LEVEL = 1`, `HAS_INDICATOR = true`) at the spec's values (R7 to R11). -/
def params : Params where
  tickNs := tickNs
  settleTicks := settleTicks
  pulseTicks := pulseTicks
  timeoutTicks := timeoutTicks
  doneTrueLevel := true
  driveEnActiveLevel := driveEnActiveLevel
  modeSelWidth := modeSelSlack + 1
  modeSelSpiValue := modeSelSpiValue
  startupTicks := startupTicks
  timerWidth := timerWidth
  hasIndicator := true

end Config

/-- The parameter set `TV_BASE` of R12, the fields it does not name at small values; its `tickNs` makes R8 and R9 hold.
For tests and witnesses only. -/
def Params.tvBase : Params where
  tickNs := 333334
  settleTicks := 3
  pulseTicks := 2
  timeoutTicks := none
  doneTrueLevel := true
  driveEnActiveLevel := true
  modeSelWidth := 2
  modeSelSpiValue := 1#2
  startupTicks := 2
  timerWidth := 3
  hasIndicator := true

/-- The parameter set `TV_HARD` of R12: `TV_BASE` with `TIMEOUT_TICKS` 4. For tests and witnesses only. -/
def Params.tvHard : Params := { Params.tvBase with timeoutTicks := some 4 }

end Sys2Proof
end

