-- ==== Sys2Proof/Syntax.lean ====
section
/-! DEFINITION. The commands of the block: one constructor per row of `spec/opcode_table.json` (R82, R86). No command
has an operand (R81). -/

namespace Sys2Proof

/-- One command word's meaning (R82); the six reserved code points are commands that are answered `ILLEGAL` (R86). -/
inductive Instr where
  /-- `NOP`, 0x0 (R160). -/
  | nop
  /-- `REL_FPGA`, 0x1: `releaseToFpga()` (R100). -/
  | relFpga
  /-- `REL_MCU`, 0x2: `releaseToMcu()` (R106). -/
  | relMcu
  /-- `RST_PROG`, 0x3: `resetAndProgram()` (R120). -/
  | rstProg
  /-- `IS_PROG`, 0x4: `isProgrammed()` (R130). -/
  | isProg
  /-- `ARM`, 0x5: `armEdgeInterrupt` for the one fixed pin, edge and callback (R143). -/
  | arm
  /-- `RD_LATCH`, 0x6 (R144). -/
  | rdLatch
  /-- `CLR_LATCH`, 0x7 (R145). -/
  | clrLatch
  /-- `TAKE_LATCH`, 0x8 (R146). -/
  | takeLatch
  /-- `STATUS`, 0x9 (R161). -/
  | status
  /-- Reserved code point 0xA (R86). -/
  | reservedA
  /-- Reserved code point 0xB (R86). -/
  | reservedB
  /-- Reserved code point 0xC (R86). -/
  | reservedC
  /-- Reserved code point 0xD (R86). -/
  | reservedD
  /-- Reserved code point 0xE (R86). -/
  | reservedE
  /-- Reserved code point 0xF (R86). -/
  | reservedF
  deriving DecidableEq, Repr

/-- The classes of R83, and the reserved rows of the table (R86). -/
inductive CmdClass where
  | nonBlocking
  | blocking
  | reserved
  deriving DecidableEq, Repr

/-- The three multi-tick operations a blocking command can start (R83; `start` of R170). -/
inductive Operation where
  /-- `releaseToFpga()` (R100). -/
  | relFpga
  /-- `releaseToMcu()` (R106). -/
  | relMcu
  /-- `resetAndProgram()` (R120). -/
  | rstProg
  deriving DecidableEq, Repr

end Sys2Proof
end

