-- ==== Sys2Proof/Machine/State.lean ====
section
/-! DEFINITION. The state as plain data: the spec's record `S` (`Block`, R21 to R35), the parameters (R7 to R11), the
input ports with the inputs still to come (R39, R43, R172) and the outputs the last tick showed (R40). -/

namespace Sys2Proof.Machine

/-- The micro-step performed in the current tick, the block's only program counter: twelve values (R21, U9). -/
inductive Seq where
  /-- Code 0: no operation runs. -/
  | idle
  /-- Code 1 (R102). -/
  | rfHiz
  /-- Code 2 (R103). -/
  | rfEn
  /-- Code 3 (R104). -/
  | rfSettle
  /-- Code 4 (R107). -/
  | rmDis
  /-- Code 5 (R108). -/
  | rmSettle
  /-- Code 6 (R109). -/
  | rmPins
  /-- Code 7 (R122). -/
  | sqMode
  /-- Code 8 (R124). -/
  | sqOut
  /-- Code 9 (R125). -/
  | sqLow
  /-- Code 10 (R126). -/
  | sqHigh
  /-- Code 11 (R128). -/
  | sqPoll
  deriving DecidableEq, Repr

/-- The source's BusOwner (R23). -/
inductive Owner where
  | mcu
  | fpga
  deriving DecidableEq, Repr

/-- The source's FpgaState (R29, U10). -/
inductive FpgaState where
  | inReset
  | loading
  | programmed
  deriving DecidableEq, Repr

/-- The spec's record `S`: the fifteen fields of R21 to R35. -/
structure Block where
  /-- `seq` (R21). -/
  seq : Seq
  /-- `in_rp` (R22). -/
  inRp : Bool
  /-- `owner` (R23). -/
  owner : Owner
  /-- `pin_drv` (R24). -/
  pinDrv : PinMask
  /-- `drive_en` (R25). -/
  driveEn : Bool
  /-- `mode_set` (R26). -/
  modeSet : Bool
  /-- `prog_oe` (R27). -/
  progOe : Bool
  /-- `prog_lvl` (R28). -/
  progLvl : Bool
  /-- `fpga_state` (R29). -/
  fpgaState : FpgaState
  /-- `cfg_timeout` (R30). -/
  cfgTimeout : Bool
  /-- `timer` (R31). -/
  timer : Nat
  /-- `poll_cnt` (R32). -/
  pollCnt : Nat
  /-- `done_latch` (R33). -/
  doneLatch : Bool
  /-- `armed` (R34). -/
  armed : Bool
  /-- `done_prev` (R35). -/
  donePrev : Bool
  deriving DecidableEq, Repr

/-- `RESET_STATE` (R42). -/
def Block.reset : Block where
  seq := .idle
  inRp := false
  owner := .mcu
  pinDrv := 0b0000#4
  driveEn := false
  modeSet := false
  progOe := false
  progLvl := true
  fpgaState := .inReset
  cfgTimeout := false
  timer := 0
  pollCnt := 0
  doneLatch := false
  armed := false
  donePrev := false

/-- The input ports, sampled once per tick (R39, R64). The clock is the step itself. -/
structure Inputs where
  /-- `rst` -/
  rst : Bool
  /-- `cmd_valid` -/
  cmdValid : Bool
  /-- `cmd` -/
  cmd : Cmd
  /-- `done_in` -/
  doneIn : Bool
  deriving DecidableEq, Repr

/-- What the outside agents put on the ports in tick `n` where no trace lays it down: unconstrained (R172, log 3). -/
def Inputs.free (n : Nat) : Inputs where
  rst := Config.freeRst n
  cmdValid := Config.freeCmdValid n
  cmd := Config.freeCmd n
  doneIn := Config.freeDoneIn n

/-- The outputs that depend on the tick's inputs: the response and the monitor's event (R40, R84, R141). -/
structure Outputs where
  /-- `rsp_valid` -/
  rspValid : Bool
  /-- `rsp_code` -/
  rspCode : RspCode
  /-- `rsp_data` -/
  rspData : Data
  /-- `mon_evt` -/
  monEvt : Bool
  deriving DecidableEq, Repr

/-- No response and no event (R85, R200). -/
def Outputs.silent : Outputs where
  rspValid := false
  rspCode := 0#2
  rspData := 0#16
  monEvt := false

/-- The machine between two ticks. `blk` is the spec's `S`; the other fields carry what the spec passes to `step`
beside `S` and what `step` returns beside `N` (R43, R170, log 1, log 3, log 5). -/
structure State where
  /-- The spec's record `S`. -/
  blk : Block
  /-- `Params`; no step writes it. -/
  params : Params
  /-- The levels on the input ports in the tick about to be performed. -/
  ports : Inputs
  /-- The inputs of the ticks after it, as far as they are laid down, the next one first. -/
  trace : List Inputs
  /-- How many ticks have been performed: the index of the free inputs. -/
  tick : Nat
  /-- The input-dependent outputs of the last tick performed. -/
  out : Outputs
  deriving DecidableEq, Repr

/-- The machine right after reset: `RESET_STATE` (R42, R201), this hardware's parameters, and nothing known of what
the outside agents will do (log 2, log 4, log 5). -/
def State.reset : State where
  blk := Block.reset
  params := Config.params
  ports := Inputs.free 0
  trace := []
  tick := 0
  out := Outputs.silent

/-- The reasons a step stops with a fault: none. The spec gives the step no fault outcome (R111, R170); the errors it
does report are responses and the flag `cfg_timeout` (R180), which are next states. Nobody raises it; safe (log 11). -/
inductive Fault where
  deriving DecidableEq, Repr

/-- The reasons a step refuses. -/
inductive Refusal where
  /-- The instruction has no meaning yet. Raised by `exec` only, in an arm that is still rejected by name; no arm is.
  Safe: the machine stops where the hardware goes on. -/
  | notModelled (mnemonic : String)
  deriving DecidableEq, Repr

end Sys2Proof.Machine
end

