-- ==== Sys2Proof/Machine/Operands.lean ====
section
/-! DEFINITION. What a tick reads: the done sample, the edge, the zero-extended results (R15, R64, R141), and the bit
codes of the enumerated state values (R90). -/

namespace Sys2Proof.Machine

/-- `d`, what `readInput(done pin)` answers in a tick with this level on `done_in` (R15, R64). -/
def doneSample (p : Params) (doneIn : Bool) : Bool := doneIn == p.doneTrueLevel

/-- `edge`: an armed monitor sees the sample pair (1, 0); electrical, whatever `DONE_TRUE_LEVEL` is (R140, R141). -/
def fallingEdge (b : Block) (doneIn : Bool) : Bool := b.armed && b.donePrev && !doneIn

/-- `zext_16` of one bit (R13, R85). -/
def zextBit (v : Bool) : Data := (BitVec.ofBool v).setWidth 16

/-- `rsp_data` on a platform that maps it onto two bytes: byte 0, at the lower address, carries bits 7:0 (R62). -/
def dataBytes (w : Data) : List Byte := [w.extractLsb' 0 8, w.extractLsb' 8 8]

/-- The code of an `owner` value (R23, R90). -/
def ownerBit : Owner → Bool
  | .mcu => false
  | .fpga => true

/-- The code of an `fpga_state` value (R29, R90). -/
def fpgaStateCode : FpgaState → BitVec 2
  | .inReset => 0#2
  | .loading => 1#2
  | .programmed => 2#2

/-- The nominal code of a `seq` value; visible on no port (R21). -/
def seqCode : Seq → BitVec 4
  | .idle => 0#4
  | .rfHiz => 1#4
  | .rfEn => 2#4
  | .rfSettle => 3#4
  | .rmDis => 4#4
  | .rmSettle => 5#4
  | .rmPins => 6#4
  | .sqMode => 7#4
  | .sqOut => 8#4
  | .sqLow => 9#4
  | .sqHigh => 10#4
  | .sqPoll => 11#4

/-- How a gate-level build reads a `seq` register: the codes 12 to 15, which never occur, as `IDLE` (R21, R170). -/
def seqOfCode (c : BitVec 4) : Seq :=
  match c.toNat with
  | 1 => .rfHiz
  | 2 => .rfEn
  | 3 => .rfSettle
  | 4 => .rmDis
  | 5 => .rmSettle
  | 6 => .rmPins
  | 7 => .sqMode
  | 8 => .sqOut
  | 9 => .sqLow
  | 10 => .sqHigh
  | 11 => .sqPoll
  | _ => .idle

end Sys2Proof.Machine
end

