-- ==== Sys2Proof/Machine/Flags.lean ====
section
/-! DEFINITION. The status flags: `busy`, the merge of the latch, the STATUS word (R36, R37, R68, R161). -/

namespace Sys2Proof.Machine

/-- `busy = (S.seq != IDLE)` (R36). -/
def busy (b : Block) : Bool := decide (b.seq ≠ .idle)

/-- Phase 5 of the tick: set wins over clear (R68, R71). -/
def mergeLatch (edge clr latch : Bool) : Bool :=
  if edge then true else if clr then false else latch

/-- `status(S, d)`, bit 15 first (R37, R161). -/
def statusWord (b : Block) (d : Bool) : Data :=
  BitVec.ofBool b.cfgTimeout ++ BitVec.ofBool (busy b) ++ BitVec.ofBool b.armed ++ BitVec.ofBool b.doneLatch
    ++ BitVec.ofBool d ++ fpgaStateCode b.fpgaState ++ BitVec.ofBool b.progLvl ++ BitVec.ofBool b.progOe
    ++ BitVec.ofBool b.modeSet ++ b.pinDrv ++ BitVec.ofBool b.driveEn ++ BitVec.ofBool (ownerBit b.owner)

end Sys2Proof.Machine
end

