-- ==== Sys2Proof/Machine/MicroSteps.lean ====
section
/-! DEFINITION. Phase 4 of the tick: the acceptance writes and the eleven micro-steps, one action each (R100 to R109,
R120 to R128), and the one that runs (R167, R170). -/

namespace Sys2Proof.Machine

/-- The writes of an accepted `REL_FPGA` (R100). -/
def startRelFpga (b : Block) : Block := { b with seq := .rfHiz, inRp := false }

/-- The writes of an accepted `REL_MCU` (R106). -/
def startRelMcu (b : Block) : Block := { b with seq := .rmDis }

/-- The writes of an accepted `RST_PROG` (R120). -/
def startRstProg (b : Block) : Block := { b with seq := .sqMode, inRp := true, cfgTimeout := false }

/-- What an idle block does with the tick's start request (R164, R167). -/
def startOperation (start : Option Operation) (b : Block) : Block :=
  match start with
  | none => b
  | some .relFpga => startRelFpga b
  | some .relMcu => startRelMcu b
  | some .rstProg => startRstProg b

/-- One tick of a wait state: count down while above 1, else write 0 and go on at `after` (R31, R165). -/
def waitTick (after : Seq) (b : Block) : Block :=
  if 1 < b.timer then { b with timer := b.timer - 1 } else { b with timer := 0, seq := after }

/-- `RF_HIZ` (R102). -/
def microRfHiz (b : Block) : Block := { b with pinDrv := 0b0000#4, seq := .rfEn }

/-- `RF_EN` (R103). -/
def microRfEn (p : Params) (b : Block) : Block :=
  { b with driveEn := true, owner := .fpga, timer := p.settleTicks, seq := .rfSettle }

/-- `RF_SETTLE` (R104): back to the caller, `resetAndProgram()` or nobody. -/
def microRfSettle (b : Block) : Block := waitTick (if b.inRp then .sqOut else .idle) b

/-- `RM_DIS` (R107). -/
def microRmDis (p : Params) (b : Block) : Block :=
  { b with driveEn := false, owner := .mcu, timer := p.settleTicks, seq := .rmSettle }

/-- `RM_SETTLE` (R108). -/
def microRmSettle (b : Block) : Block := waitTick .rmPins b

/-- `RM_PINS` (R109). -/
def microRmPins (b : Block) : Block := { b with pinDrv := 0b1111#4, seq := .idle }

/-- `SQ_MODE` (R122). -/
def microSqMode (b : Block) : Block := { b with modeSet := true, seq := .rfHiz }

/-- `SQ_OUT` (R124). -/
def microSqOut (p : Params) (b : Block) : Block :=
  { b with progOe := true, progLvl := false, fpgaState := .inReset, timer := p.pulseTicks, seq := .sqLow }

/-- `SQ_LOW` (R125). -/
def microSqLow (b : Block) : Block := waitTick .sqHigh b

/-- `SQ_HIGH` (R126). -/
def microSqHigh (b : Block) : Block :=
  { b with progLvl := true, fpgaState := .loading, pollCnt := 0, seq := .sqPoll }

/-- What both exits of `SQ_POLL` write (R22, R32, R128). -/
def endRstProg (b : Block) : Block := { b with seq := .idle, inRp := false, pollCnt := 0 }

/-- A failed sample of `SQ_POLL`: nothing in the baseline; in the hardened variant one more count, or the timeout
(R128, R165). -/
def pollFailed (p : Params) (b : Block) : Block :=
  match p.timeoutTicks with
  | none => b
  | some n =>
    if n ≤ b.pollCnt + 1 then endRstProg { b with cfgTimeout := true } else { b with pollCnt := b.pollCnt + 1 }

/-- `SQ_POLL`; success is tested before the timeout (R128). -/
def microSqPoll (p : Params) (d : Bool) (b : Block) : Block :=
  if d then endRstProg { b with fpgaState := .programmed } else pollFailed p b

/-- Phase 4: the micro-step of `S.seq`, or the start request of an idle block (R68, R170). -/
def microStep (p : Params) (d : Bool) (start : Option Operation) (b : Block) : Block :=
  match b.seq with
  | .idle => startOperation start b
  | .rfHiz => microRfHiz b
  | .rfEn => microRfEn p b
  | .rfSettle => microRfSettle b
  | .rmDis => microRmDis p b
  | .rmSettle => microRmSettle b
  | .rmPins => microRmPins b
  | .sqMode => microSqMode b
  | .sqOut => microSqOut p b
  | .sqLow => microSqLow b
  | .sqHigh => microSqHigh b
  | .sqPoll => microSqPoll p d b

end Sys2Proof.Machine
end

