-- ==== Sys2Proof/Machine/Ops.lean ====
section
/-! DEFINITION. The shared operations of a tick: the response and the requests of phase 3, the monitor's event (the only
event the block takes by itself, R185, R187), the whole tick, and reset (R68, R84, R141, R170, R200). There is no return
from the event, because nothing is entered (R188). -/

namespace Sys2Proof.Machine

/-- Response code `OK` (R84). -/
def rspOk : RspCode := 0#2
/-- Response code `REJECTED` (R84, R181). -/
def rspRejected : RspCode := 1#2
/-- Response code `ILLEGAL` (R84, R182). -/
def rspIllegal : RspCode := 2#2

/-- What phase 3 hands to the later phases: the response, and the writes it notes (R68, R170). -/
structure Request where
  /-- `rsp_valid` -/
  rspValid : Bool
  /-- `rsp_code` -/
  rspCode : RspCode
  /-- `rsp_data` -/
  rspData : Data
  /-- `N.armed <- 1` (R143) -/
  arm : Bool
  /-- `clr` (R145, R146) -/
  clr : Bool
  /-- `start` (R164) -/
  start : Option Operation
  deriving DecidableEq, Repr

/-- A tick with `cmd_valid == 0` (R162). -/
def Request.quiet : Request where
  rspValid := false
  rspCode := 0#2
  rspData := 0#16
  arm := false
  clr := false
  start := none

/-- `respond(code, data)`, with no write noted (R16, R84). -/
def Request.respond (code : RspCode) (data : Data) : Request :=
  { Request.quiet with rspValid := true, rspCode := code, rspData := data }

/-- A blocking command: accepted by an idle block, else rejected and dropped (R164). -/
def Request.blocking (b : Block) (op : Operation) : Request :=
  if b.seq = .idle then { Request.respond rspOk 0#16 with start := some op } else Request.respond rspRejected 0#16

/-- A reserved code point (R86). -/
def Request.illegal : Request := Request.respond rspIllegal 0#16

/-- The monitor's event and the latch merge, phases 2 and 5: the edge sets `done_latch` and nothing else, over a clear
of the same tick; the sample becomes `done_prev` (R68, R71, R141, R187). `seen` is the pre-state. -/
def takeMonitorEvent (seen : Block) (doneIn clr : Bool) (b : Block) : Block :=
  { b with
    donePrev := doneIn
    doneLatch := mergeLatch (fallingEdge seen doneIn) clr seen.doneLatch }

/-- The noted write of `ARM`; `armed` is never cleared by a command (R34, R143). -/
def applyArm (arm : Bool) (b : Block) : Block := { b with armed := arm || b.armed }

/-- `N` of R170 for a tick without reset: every phase reads the pre-state `b` (R14, R68). -/
def nextBlock (p : Params) (b : Block) (doneIn : Bool) (r : Request) : Block :=
  takeMonitorEvent b doneIn r.clr (applyArm r.arm (microStep p (doneSample p doneIn) r.start b))

/-- `out` of R170 for a tick without reset. -/
def tickOutputs (b : Block) (doneIn : Bool) (r : Request) : Outputs where
  rspValid := r.rspValid
  rspCode := r.rspCode
  rspData := r.rspData
  monEvt := fallingEdge b doneIn

/-- A tick without reset in which phase 3 makes the request `r`; the ports are left for `advance` (R170). -/
def runTick (s : State) (r : Request) : State :=
  { s with
    blk := nextBlock s.params s.blk s.ports.doneIn r
    out := tickOutputs s.blk s.ports.doneIn r }

/-- A tick with `cmd_valid == 0` (R162). -/
def quietTick (s : State) : State := runTick s Request.quiet

/-- A tick with `rst == 1` (R170, R200). -/
def resetTick (s : State) : State := { s with blk := Block.reset, out := Outputs.silent }

end Sys2Proof.Machine
end

