-- ==== Sys2Proof/Machine/Arbiter.lean ====
section
/-! DEFINITION. The Bus Arbiter's commands (`40_arbiter.md`). A meaning is the whole tick in which the command is
presented (R68, R170). -/

namespace Sys2Proof.Machine

/-- `REL_FPGA` (R100, R164). -/
def execRelFpga (s : State) : Host.Outcome State Fault Refusal :=
  .next (runTick s (Request.blocking s.blk .relFpga))

/-- `REL_MCU` (R106, R164). -/
def execRelMcu (s : State) : Host.Outcome State Fault Refusal :=
  .next (runTick s (Request.blocking s.blk .relMcu))

end Sys2Proof.Machine
end

