-- ==== Sys2Proof/Machine/Monitor.lean ====
section
/-! DEFINITION. The Completion Monitor's commands (`42_monitor.md`). -/

namespace Sys2Proof.Machine

/-- `ARM` (R143). -/
def execArm (s : State) : Host.Outcome State Fault Refusal :=
  .next (runTick s { Request.respond rspOk 0#16 with arm := true })

/-- `RD_LATCH`: the pre-state's latch, not cleared (R144). -/
def execRdLatch (s : State) : Host.Outcome State Fault Refusal :=
  .next (runTick s (Request.respond rspOk (zextBit s.blk.doneLatch)))

/-- `CLR_LATCH` (R145). -/
def execClrLatch (s : State) : Host.Outcome State Fault Refusal :=
  .next (runTick s { Request.respond rspOk 0#16 with clr := true })

/-- `TAKE_LATCH`: the atomic read and clear (R73, R146). -/
def execTakeLatch (s : State) : Host.Outcome State Fault Refusal :=
  .next (runTick s { Request.respond rspOk (zextBit s.blk.doneLatch) with clr := true })

end Sys2Proof.Machine
end

