-- ==== Sys2Proof/Machine/Reserved.lean ====
section
/-! DEFINITION. The six reserved code points: answered `ILLEGAL`, no state change, the tick otherwise ordinary (R86,
R182). -/

namespace Sys2Proof.Machine

/-- Code point 0xA (R86). -/
def execReservedA (s : State) : Host.Outcome State Fault Refusal := .next (runTick s Request.illegal)

/-- Code point 0xB (R86). -/
def execReservedB (s : State) : Host.Outcome State Fault Refusal := .next (runTick s Request.illegal)

/-- Code point 0xC (R86). -/
def execReservedC (s : State) : Host.Outcome State Fault Refusal := .next (runTick s Request.illegal)

/-- Code point 0xD (R86). -/
def execReservedD (s : State) : Host.Outcome State Fault Refusal := .next (runTick s Request.illegal)

/-- Code point 0xE (R86). -/
def execReservedE (s : State) : Host.Outcome State Fault Refusal := .next (runTick s Request.illegal)

/-- Code point 0xF (R86). -/
def execReservedF (s : State) : Host.Outcome State Fault Refusal := .next (runTick s Request.illegal)

end Sys2Proof.Machine
end

