-- ==== Sys2Proof/Machine/Sequencer.lean ====
section
/-! DEFINITION. The Configuration Sequencer's commands (`41_sequencer.md`). -/

namespace Sys2Proof.Machine

/-- `RST_PROG` (R120, R164). -/
def execRstProg (s : State) : Host.Outcome State Fault Refusal :=
  .next (runTick s (Request.blocking s.blk .rstProg))

/-- `IS_PROG`: this tick's done sample, the one the poll sees (R64, R130). -/
def execIsProg (s : State) : Host.Outcome State Fault Refusal :=
  .next (runTick s (Request.respond rspOk (zextBit (doneSample s.params s.ports.doneIn))))

end Sys2Proof.Machine
end

