-- ==== Sys2Proof/Machine/System.lean ====
section
/-! DEFINITION. The system commands (`43_system.md`). -/

namespace Sys2Proof.Machine

/-- `NOP` (R160). -/
def execNop (s : State) : Host.Outcome State Fault Refusal :=
  .next (runTick s (Request.respond rspOk 0#16))

/-- `STATUS`: the pre-state's fields and this tick's done sample (R37, R161). -/
def execStatus (s : State) : Host.Outcome State Fault Refusal :=
  .next (runTick s (Request.respond rspOk (statusWord s.blk (doneSample s.params s.ports.doneIn))))

end Sys2Proof.Machine
end

