-- ==== Sys2Proof/Machine/Dispatch.lean ====
section
/-! DEFINITION. One arm per command, each one call of its meaning: the tick in which the command is presented. -/

namespace Sys2Proof.Machine

def exec (i : Instr) (s : State) : Host.Outcome State Fault Refusal :=
  match i with
  | .nop => Sys2Proof.Machine.execNop s
  | .relFpga => Sys2Proof.Machine.execRelFpga s
  | .relMcu => Sys2Proof.Machine.execRelMcu s
  | .rstProg => Sys2Proof.Machine.execRstProg s
  | .isProg => Sys2Proof.Machine.execIsProg s
  | .arm => Sys2Proof.Machine.execArm s
  | .rdLatch => Sys2Proof.Machine.execRdLatch s
  | .clrLatch => Sys2Proof.Machine.execClrLatch s
  | .takeLatch => Sys2Proof.Machine.execTakeLatch s
  | .status => Sys2Proof.Machine.execStatus s
  | .reservedA => Sys2Proof.Machine.execReservedA s
  | .reservedB => Sys2Proof.Machine.execReservedB s
  | .reservedC => Sys2Proof.Machine.execReservedC s
  | .reservedD => Sys2Proof.Machine.execReservedD s
  | .reservedE => Sys2Proof.Machine.execReservedE s
  | .reservedF => Sys2Proof.Machine.execReservedF s

end Sys2Proof.Machine
end

