-- ==== Sys2Proof/Decode.lean ====
section
/-! DEFINITION. The decoder of the command port (R80, R82, R86, R87), the byte form in which the host's table words reach
it, and the encoder. -/

namespace Sys2Proof

/-- The command a port word stands for (R82, R86). Total on all sixteen words: the last line is 0xF, the only value of
four bits that the lines above leave. -/
def decodeCmd (c : Cmd) : Instr :=
  match c.toNat with
  | 0x0 => .nop
  | 0x1 => .relFpga
  | 0x2 => .relMcu
  | 0x3 => .rstProg
  | 0x4 => .isProg
  | 0x5 => .arm
  | 0x6 => .rdLatch
  | 0x7 => .clrLatch
  | 0x8 => .takeLatch
  | 0x9 => .status
  | 0xA => .reservedA
  | 0xB => .reservedB
  | 0xC => .reservedC
  | 0xD => .reservedD
  | 0xE => .reservedE
  | _ => .reservedF

/-- Why a byte sequence holds no command word. Raised by `decodeBytes` only, never by the port. -/
inductive DecodeError where
  /-- There is no byte left. -/
  | noWord
  /-- Bits 7:4 are not zero: a command word has four bits (R80), so no command is meant (log 10). -/
  | notFourBits (b : Byte)
  deriving DecidableEq, Repr

/-- Decodes one command word laid out in whole bytes, bits 7:4 zero, and answers the bytes after it (log 10). -/
def decodeBytes : List Byte → Except DecodeError (Instr × List Byte)
  | [] => .error .noWord
  | b :: rest =>
    if b.toNat < 16 then .ok (decodeCmd (b.setWidth 4), rest) else .error (.notFourBits b)

/-- The command in the low `nbits` bits of `w`, laid out as bytes for `decodeBytes`; a word that needs a second byte is no
command word. -/
def decodeTableWord (nbits w : Nat) : Option Instr :=
  let bits := w % 2 ^ nbits
  if bits < 256 then
    match decodeBytes [BitVec.ofNat 8 bits] with
    | .ok (i, _) => some i
    | .error _ => none
  else none

/-- The class of a command (R82, R83, R86). -/
def classOf : Instr → CmdClass
  | .nop => .nonBlocking
  | .relFpga => .blocking
  | .relMcu => .blocking
  | .rstProg => .blocking
  | .isProg => .nonBlocking
  | .arm => .nonBlocking
  | .rdLatch => .nonBlocking
  | .clrLatch => .nonBlocking
  | .takeLatch => .nonBlocking
  | .status => .nonBlocking
  | .reservedA => .reserved
  | .reservedB => .reserved
  | .reservedC => .reserved
  | .reservedD => .reserved
  | .reservedE => .reserved
  | .reservedF => .reserved

/-- The port word of a command (R82, R86). -/
def encode : Instr → Cmd
  | .nop => 0b0000#4
  | .relFpga => 0b0001#4
  | .relMcu => 0b0010#4
  | .rstProg => 0b0011#4
  | .isProg => 0b0100#4
  | .arm => 0b0101#4
  | .rdLatch => 0b0110#4
  | .clrLatch => 0b0111#4
  | .takeLatch => 0b1000#4
  | .status => 0b1001#4
  | .reservedA => 0b1010#4
  | .reservedB => 0b1011#4
  | .reservedC => 0b1100#4
  | .reservedD => 0b1101#4
  | .reservedE => 0b1110#4
  | .reservedF => 0b1111#4

/-- The byte form of a command: its four bits, bits 7:4 zero (log 10). -/
def encodeByte (i : Instr) : Byte := (encode i).setWidth 8

end Sys2Proof
end

