-- ==== Sys2Proof/Machine/Fetch.lean ====
section
/-! DEFINITION. What the ports ask of a tick, and how the next tick's inputs reach the ports (R74, R162, R172, R200). -/

namespace Sys2Proof.Machine

/-- What the ports ask for in a tick. -/
inductive Fetched where
  /-- `rst == 1`: the command slot is ignored (R200). -/
  | reset
  /-- `cmd_valid == 0`: the word on `cmd` is ignored (R162). -/
  | quiet
  /-- The command on the port (R74). -/
  | command (i : Instr)
  deriving DecidableEq, Repr

/-- Reads the ports of the tick about to be performed (R74, R162, R200). -/
def fetch (s : State) : Fetched :=
  if s.ports.rst then .reset
  else if s.ports.cmdValid then .command (decodeCmd s.ports.cmd)
  else .quiet

/-- The inputs of the `k`-th coming tick, 0 the one about to be performed: on the ports, in the trace, or free
(R172, log 3). -/
def State.inputAt (s : State) : Nat → Inputs
  | 0 => s.ports
  | k + 1 => (s.trace[k]?).getD (Inputs.free (s.tick + (k + 1)))

/-- The tick is over: the next tick's inputs come on the ports (R69, R172). -/
def advance (s : State) : State :=
  { s with ports := s.inputAt 1, trace := s.trace.tail, tick := s.tick + 1 }

/-- The host presents the word `c` in the tick about to be performed; `done_in` stays the environment's (R80, log 4). -/
def presentWord (c : Cmd) (s : State) : State :=
  { s with ports := { s.ports with rst := false, cmdValid := true, cmd := c } }

end Sys2Proof.Machine
end

