-- ==== Sys2Proof/Machine/Step.lean ====
section
/-! DEFINITION. One step: one tick of the clock, then the next tick's inputs come on the ports (R170, R172). -/

namespace Sys2Proof.Machine

/-- One tick (R170): reset, a tick without a command, or the command on the port. -/
def step (s : State) : Host.Outcome State Fault Refusal :=
  match fetch s with
  | .reset => .next (advance (resetTick s))
  | .quiet => .next (advance (quietTick s))
  | .command i =>
    match exec i s with
    | .next t => .next (advance t)
    | .fault r => .fault r
    | .refused r => .refused r

/-- `s` with the command in bits 3:0 of `w` presented on the port of the very next tick (R80, log 4). -/
def State.withFetchWord (s : State) (nbits w : Nat) : State :=
  presentWord (BitVec.ofNat 4 (w % 2 ^ nbits)) s

end Sys2Proof.Machine
end

