-- ==== Sys2Proof/Machine/Pins.lean ====
section
/-! DEFINITION. The registered outputs during a tick whose pre-state is `S` (R40, R171). -/

namespace Sys2Proof.Machine

/-- The output pins that are functions of the pre-state alone. `none` on a pin the block does not drive is `Z`, which
has no level (R40, U6, log 6). -/
structure Pins (w : Nat) where
  /-- `spi_oe[3:0]` -/
  spiOe : PinMask
  /-- `drive_en_pin` -/
  driveEnPin : Bool
  /-- `mode_sel_pin`, `MODE_SEL_WIDTH` bits, or `Z` -/
  modeSelPin : Option (BitVec w)
  /-- `prog_pin`, or `Z` -/
  progPin : Option Bool
  /-- `busy` -/
  busyPin : Bool
  /-- `indicator`; `none` where the build has no such output (R11, R132) -/
  indicator : Option Bool
  /-- `cfg_timeout_out` -/
  cfgTimeoutOut : Bool
  /-- `latch_out` -/
  latchOut : Bool
  deriving DecidableEq, Repr

/-- What the block drives on the reset/program line (R40). -/
def progPin (b : Block) : Option Bool := if b.progOe then some b.progLvl else none

/-- `indicator`, where the output exists (R132). -/
def indicatorLevel (b : Block) : Bool := decide (b.fpgaState = .programmed)

/-- `pins(S)` (R171). -/
def pins (p : Params) (b : Block) : Pins p.modeSelWidth where
  spiOe := b.pinDrv
  driveEnPin := if b.driveEn then p.driveEnActiveLevel else !p.driveEnActiveLevel
  modeSelPin := if b.modeSet then some p.modeSelSpiValue else none
  progPin := progPin b
  busyPin := busy b
  indicator := if p.hasIndicator then some (indicatorLevel b) else none
  cfgTimeoutOut := b.cfgTimeout
  latchOut := b.doneLatch

end Sys2Proof.Machine
end

