-- ==== Sys2Proof/WellFormed.lean ====
section
/-! DEFINITION. What makes a command and a parameter record well formed. A command has no field to check (R81); a
parameter record is checked against every constraint of R7 to R11, one named check each. -/

namespace Sys2Proof

/-- Every command is well formed: no command carries an operand, a register number, an immediate or a mode (R81). -/
def Instr.wf (_ : Instr) : Bool := true

/-- `T_TICK_NS` is positive (R7). -/
def Params.tickOk (p : Params) : Bool := decide (1 ≤ p.tickNs)

/-- `SETTLE_TICKS ≥ 1` and the settle delay lasts at least 1 ms (R8). -/
def Params.settleOk (p : Params) : Bool :=
  decide (1 ≤ p.settleTicks) && decide (1000000 ≤ p.settleTicks * p.tickNs)

/-- `PULSE_TICKS ≥ 1` and the pulse wait lasts at least 50 µs (R9). -/
def Params.pulseOk (p : Params) : Bool :=
  decide (1 ≤ p.pulseTicks) && decide (50000 ≤ p.pulseTicks * p.tickNs)

/-- `TIMEOUT_TICKS` is `INF` or at least 1 (R10). -/
def Params.timeoutOk (p : Params) : Bool :=
  match p.timeoutTicks with
  | none => true
  | some n => decide (1 ≤ n)

/-- `MODE_SEL_WIDTH ≥ 1` (R11). -/
def Params.modeSelOk (p : Params) : Bool := decide (1 ≤ p.modeSelWidth)

/-- `2^TIMER_WIDTH` is above every count (R11). -/
def Params.timerWidthOk (p : Params) : Bool := decide (p.maxCount < 2 ^ p.timerWidth)

/-- An admissible parameter record (R7 to R11). -/
def Params.wf (p : Params) : Bool :=
  p.tickOk && p.settleOk && p.pulseOk && p.timeoutOk && p.modeSelOk && p.timerWidthOk

end Sys2Proof
end

