-- ==== Sys2Proof/Safety.lean ====
section
/-! DEFINITION. What the claims speak of: runs of several ticks, the inputs on the way, the safe blocks of R44 to R46,
the idle biconditional of R47, and what the monitor's side of the block is. -/

namespace Sys2Proof.Machine

/-- `n` ticks (R172), stopping at the first fault or refusal. -/
def ticks : Nat → State → Host.Outcome State Fault Refusal
  | 0, s => .next s
  | n + 1, s =>
    match step s with
    | .next t => ticks n t
    | .fault r => .fault r
    | .refused r => .refused r

/-- No reset in the next `n` ticks. -/
def NoReset (s : State) (n : Nat) : Prop := ∀ k, k < n → (s.inputAt k).rst = false

/-- `d` of the `k`-th coming tick (R64, R172). -/
def doneAt (s : State) (k : Nat) : Bool := doneSample s.params (s.inputAt k).doneIn

/-- The ports present the command `c` in a tick without reset (R88). -/
def presents (i : Inputs) (c : Instr) : Bool := !i.rst && i.cmdValid && decide (decodeCmd i.cmd = c)

/-- What holds in a block that is about to perform each micro-step: how far the operation has got (R101, R121, R133). -/
def AtMicroStep (b : Block) : Prop :=
  match b.seq with
  | .idle => True
  | .rfHiz => b.inRp = true → b.modeSet = true
  | .rfEn => b.pinDrv = 0b0000#4 ∧ (b.inRp = true → b.modeSet = true)
  | .rfSettle => b.pinDrv = 0b0000#4 ∧ b.driveEn = true ∧ (b.inRp = true → b.modeSet = true)
  | .rmDis => b.inRp = false
  | .rmSettle => b.driveEn = false ∧ b.inRp = false
  | .rmPins => b.driveEn = false ∧ b.inRp = false
  | .sqMode => b.inRp = true
  | .sqOut => b.inRp = true ∧ b.driveEn = true ∧ b.modeSet = true
  | .sqLow => b.inRp = true ∧ b.driveEn = true ∧ b.modeSet = true ∧ b.progOe = true ∧ b.progLvl = false
  | .sqHigh => b.inRp = true ∧ b.driveEn = true ∧ b.modeSet = true ∧ b.progOe = true ∧ b.progLvl = false
  | .sqPoll =>
    b.inRp = true ∧ b.driveEn = true ∧ b.modeSet = true ∧ b.progOe = true ∧ b.progLvl = true ∧ b.fpgaState = .loading

/-- The safe blocks: R44, R45 and R46, the bounds of R31 and R32, and what each micro-step may rely on. -/
structure SafeBlock (p : Params) (b : Block) : Prop where
  /-- R44 -/
  owner_follows_signal : b.owner = .fpga ↔ b.driveEn = true
  /-- R45: no simultaneous drive. -/
  no_contention : b.driveEn = true → b.pinDrv = 0b0000#4
  /-- R45: the pins switch together. -/
  pins_together : b.pinDrv = 0b0000#4 ∨ b.pinDrv = 0b1111#4
  /-- R46 (b) -/
  undriven_in_reset : b.progOe = false → b.fpgaState = .inReset
  /-- R46 (c) -/
  low_iff_in_reset : b.progOe = true → (b.progLvl = false ↔ b.fpgaState = .inReset)
  /-- R46 (d) -/
  out_of_reset : b.fpgaState ≠ .inReset → b.modeSet = true ∧ b.progOe = true
  /-- R46 (e) -/
  idle_clean : b.seq = .idle → b.inRp = false ∧ b.timer = 0 ∧ b.pollCnt = 0
  /-- R46 (f) -/
  timer_runs : b.timer ≠ 0 ↔ (b.seq = .rfSettle ∨ b.seq = .rmSettle ∨ b.seq = .sqLow)
  /-- R46 (g) -/
  timeout_finite : b.cfgTimeout = true → p.timeoutTicks ≠ none
  /-- R31 -/
  timer_le : b.timer ≤ max p.settleTicks p.pulseTicks
  /-- R32, hardened -/
  poll_lt : ∀ n, p.timeoutTicks = some n → b.pollCnt < n
  /-- R32, baseline -/
  poll_baseline : p.timeoutTicks = none → b.pollCnt = 0
  /-- R32: the count runs in the poll only. -/
  poll_only : b.pollCnt ≠ 0 → b.seq = .sqPoll
  /-- R30: the flag is clear while `resetAndProgram()` runs. -/
  flag_clear : b.inRp = true → b.cfgTimeout = false
  /-- How far the running operation has got. -/
  at_micro_step : AtMicroStep b

/-- R47: the MCU owns the bus exactly when its pins drive, the FPGA exactly when they float. -/
def DriverIsOwner (b : Block) : Prop :=
  (b.owner = .mcu ↔ b.pinDrv = 0b1111#4) ∧ (b.owner = .fpga ↔ b.pinDrv = 0b0000#4)

/-- The block with its monitor's side blanked: what is left are the twelve fields of the arbiter and the sequencer
(R76). -/
def Block.sequencing (b : Block) : Block := { b with doneLatch := false, armed := false, donePrev := false }

/-- The two blocks agree on the twelve fields of the arbiter and the sequencer: on all but `done_latch`, `armed` and
`done_prev` (R76). -/
def SameSequencing (a b : Block) : Prop := a.sequencing = b.sequencing

/-- The four commands that reach only the monitor's side (R143 to R146). -/
def isMonitorCommand : Instr → Bool
  | .arm => true
  | .rdLatch => true
  | .clrLatch => true
  | .takeLatch => true
  | .nop => false
  | .relFpga => false
  | .relMcu => false
  | .rstProg => false
  | .isProg => false
  | .status => false
  | .reservedA => false
  | .reservedB => false
  | .reservedC => false
  | .reservedD => false
  | .reservedE => false
  | .reservedF => false

/-- The same inputs with a monitor command replaced by `NOP`. -/
def eraseMonitorCommand (i : Inputs) : Inputs :=
  if i.cmdValid && isMonitorCommand (decodeCmd i.cmd) then { i with cmd := encode .nop } else i

end Sys2Proof.Machine
end

