-- ==== Sys2Proof/Certificates/Slice0/Obligations.lean ====
section
/-! DEFINITION. The statements for the provers. Times are in ticks: `ticks k s` is the state `k` ticks after `s`, and
`s.inputAt k` the inputs of the `k`-th coming tick, 0 the one about to be performed. -/

open Sys2Proof Sys2Proof.Machine

/-! ### Encoding -/

/-- R82: the opcode map, word by word, with the classes. -/
def Obligations.CommandWordsDecodeAsTabled : Prop :=
  (decodeCmd 0b0000#4 = .nop ∧ classOf .nop = .nonBlocking) ∧
  (decodeCmd 0b0001#4 = .relFpga ∧ classOf .relFpga = .blocking) ∧
  (decodeCmd 0b0010#4 = .relMcu ∧ classOf .relMcu = .blocking) ∧
  (decodeCmd 0b0011#4 = .rstProg ∧ classOf .rstProg = .blocking) ∧
  (decodeCmd 0b0100#4 = .isProg ∧ classOf .isProg = .nonBlocking) ∧
  (decodeCmd 0b0101#4 = .arm ∧ classOf .arm = .nonBlocking) ∧
  (decodeCmd 0b0110#4 = .rdLatch ∧ classOf .rdLatch = .nonBlocking) ∧
  (decodeCmd 0b0111#4 = .clrLatch ∧ classOf .clrLatch = .nonBlocking) ∧
  (decodeCmd 0b1000#4 = .takeLatch ∧ classOf .takeLatch = .nonBlocking) ∧
  (decodeCmd 0b1001#4 = .status ∧ classOf .status = .nonBlocking) ∧
  ∀ c : Cmd, 0b1010#4 ≤ c → classOf (decodeCmd c) = .reserved

/-- Decode and encode agree on every command and on every word of the port. -/
def Obligations.DecodeAndEncodeAgree : Prop :=
  (∀ i : Instr, i.wf = true → decodeCmd (encode i) = i) ∧ ∀ c : Cmd, encode (decodeCmd c) = c

/-! ### The step -/

/-- A tick without reset that presents a command runs that command; then the next tick's inputs come on the ports, which is
the model's form of the spec's input argument (log 3). -/
def Obligations.StepRunsTheDecodedCommand : Prop :=
  ∀ (s : State) (i : Instr), s.ports.rst = false → s.ports.cmdValid = true → decodeCmd s.ports.cmd = i →
    i.wf = true ∧
    (∀ t, exec i s = .next t →
      step s = .next { t with ports := s.inputAt 1, trace := s.trace.tail, tick := s.tick + 1 }) ∧
    (∀ r, exec i s = .fault r → step s = .fault r) ∧
    (∀ r, exec i s = .refused r → step s = .refused r)

/-- The step is total: from every state, whatever the ports show, there is a next state; the parameters stay. How the
inputs and the tick counter move is the model's form (log 1, log 3). -/
def Obligations.StepNeverStops : Prop :=
  ∀ s : State, ∃ t, step s = .next t ∧ t.params = s.params ∧ t.ports = s.inputAt 1 ∧
    t.trace = s.trace.tail ∧ t.tick = s.tick + 1

/-- R162: a tick without a command. The word on `cmd` does not matter, there is no response, nothing is armed, cleared or
started, and the rest of the tick is what it is beside a `NOP`. -/
def Obligations.QuietTickPerformsNoCommand : Prop :=
  ∀ (s u : State) (c : Cmd), s.ports.rst = false → s.ports.cmdValid = false → exec .nop s = .next u →
    ∃ t, step s = .next t ∧
      step { s with ports := { s.ports with cmd := c } } = .next t ∧
      t.out = { rspValid := false, rspCode := 0#2, rspData := 0#16, monEvt := u.out.monEvt } ∧
      t.blk = u.blk ∧
      t.blk.armed = s.blk.armed ∧
      t.blk.doneLatch = (s.blk.armed && s.blk.donePrev && !s.ports.doneIn || s.blk.doneLatch) ∧
      (s.blk.seq = .idle → SameSequencing t.blk s.blk)

/-- R200 and R42: reset wins over everything, and the post-state is `RESET_STATE`. That the parameters stay is the model's
form (log 1). -/
def Obligations.ResetTickGivesResetState : Prop :=
  ∀ s : State, s.ports.rst = true → ∃ t, step s = .next t ∧
    t.blk = { seq := .idle, inRp := false, owner := .mcu, pinDrv := 0b0000#4, driveEn := false, modeSet := false,
              progOe := false, progLvl := true, fpgaState := .inReset, cfgTimeout := false, timer := 0, pollCnt := 0,
              doneLatch := false, armed := false, donePrev := false } ∧
    t.out = { rspValid := false, rspCode := 0#2, rspData := 0#16, monEvt := false } ∧
    t.params = s.params ∧
    pins t.params t.blk =
      { spiOe := 0b0000#4, driveEnPin := !t.params.driveEnActiveLevel, modeSelPin := none, progPin := none,
        busyPin := false, indicator := if t.params.hasIndicator then some false else none,
        cfgTimeoutOut := false, latchOut := false }

/-- R201: a run starts in `RESET_STATE`, idle, the event source disabled, nothing driven. -/
def Obligations.RunStartsIdleAndUndriven : Prop :=
  State.reset.blk = { seq := .idle, inRp := false, owner := .mcu, pinDrv := 0b0000#4, driveEn := false,
                      modeSet := false, progOe := false, progLvl := true, fpgaState := .inReset, cfgTimeout := false,
                      timer := 0, pollCnt := 0, doneLatch := false, armed := false, donePrev := false } ∧
  ∀ p : Params, (pins p State.reset.blk).progPin = none ∧ (pins p State.reset.blk).modeSelPin = none ∧
    (pins p State.reset.blk).spiOe = 0b0000#4 ∧ (pins p State.reset.blk).driveEnPin = !p.driveEnActiveLevel

/-! ### The commands: each is performed, and this is the tick's result -/

/-- R160: `NOP` differs from a tick without a command in the response only. -/
def Obligations.NopOnlyResponds : Prop :=
  decodeCmd 0x0#4 = .nop ∧
  ∀ s : State, exec .nop s = .next { quietTick s with
    out := { rspValid := true, rspCode := 0#2, rspData := 0#16, monEvt := (quietTick s).out.monEvt } }

/-- R130: `IS_PROG` answers this tick's done sample, busy or not, and changes nothing. -/
def Obligations.IsProgReportsTheInput : Prop :=
  decodeCmd 0x4#4 = .isProg ∧
  ∀ s : State, exec .isProg s = .next { quietTick s with
    out := { rspValid := true, rspCode := 0#2,
             rspData := if s.ports.doneIn = s.params.doneTrueLevel then 0x0001#16 else 0x0000#16,
             monEvt := (quietTick s).out.monEvt } }

/-- R144: `RD_LATCH` answers the pre-state's latch and changes nothing. -/
def Obligations.RdLatchReadsWithoutClearing : Prop :=
  decodeCmd 0x6#4 = .rdLatch ∧
  ∀ s : State, exec .rdLatch s = .next { quietTick s with
    out := { rspValid := true, rspCode := 0#2,
             rspData := if s.blk.doneLatch = true then 0x0001#16 else 0x0000#16,
             monEvt := (quietTick s).out.monEvt } }

/-- R143: `ARM` arms from the next state on; this tick's edge is judged with the old `armed`. -/
def Obligations.ArmArmsFromTheNextState : Prop :=
  decodeCmd 0x5#4 = .arm ∧
  ∀ s : State, exec .arm s = .next { quietTick s with
    blk := { (quietTick s).blk with armed := true }
    out := { rspValid := true, rspCode := 0#2, rspData := 0x0000#16, monEvt := (quietTick s).out.monEvt } }

/-- R145, R71: `CLR_LATCH` clears the latch unless an edge is detected in the same tick. -/
def Obligations.ClrLatchClearsUnlessEdge : Prop :=
  decodeCmd 0x7#4 = .clrLatch ∧
  ∀ s : State, exec .clrLatch s = .next { quietTick s with
    blk := { (quietTick s).blk with doneLatch := s.blk.armed && s.blk.donePrev && !s.ports.doneIn }
    out := { rspValid := true, rspCode := 0#2, rspData := 0x0000#16, monEvt := (quietTick s).out.monEvt } }

/-- R146, R71: `TAKE_LATCH` answers the old value and clears it unless an edge is detected in the same tick. -/
def Obligations.TakeLatchReadsAndClears : Prop :=
  decodeCmd 0x8#4 = .takeLatch ∧
  ∀ s : State, exec .takeLatch s = .next { quietTick s with
    blk := { (quietTick s).blk with doneLatch := s.blk.armed && s.blk.donePrev && !s.ports.doneIn }
    out := { rspValid := true, rspCode := 0#2,
             rspData := if s.blk.doneLatch = true then 0x0001#16 else 0x0000#16,
             monEvt := (quietTick s).out.monEvt } }

/-- R37: `STATUS` answers every field at its bits, from the pre-state, bit 11 from the tick's sample, and changes
nothing; right after reset with done false it answers `0x0100`. -/
def Obligations.StatusReportsEveryField : Prop :=
  (∀ s : State, ∃ w : Data,
    exec .status s = .next { quietTick s with
      out := { rspValid := true, rspCode := 0#2, rspData := w, monEvt := (quietTick s).out.monEvt } } ∧
    (w.getLsbD 0 = true ↔ s.blk.owner = .fpga) ∧
    w.getLsbD 1 = s.blk.driveEn ∧
    w.extractLsb' 2 4 = s.blk.pinDrv ∧
    w.getLsbD 6 = s.blk.modeSet ∧
    w.getLsbD 7 = s.blk.progOe ∧
    w.getLsbD 8 = s.blk.progLvl ∧
    w.extractLsb' 9 2 = (match s.blk.fpgaState with | .inReset => 0#2 | .loading => 1#2 | .programmed => 2#2) ∧
    (w.getLsbD 11 = true ↔ s.ports.doneIn = s.params.doneTrueLevel) ∧
    w.getLsbD 12 = s.blk.doneLatch ∧
    w.getLsbD 13 = s.blk.armed ∧
    (w.getLsbD 14 = true ↔ s.blk.seq ≠ .idle) ∧
    w.getLsbD 15 = s.blk.cfgTimeout) ∧
  ∀ s : State, s.blk = Block.reset → s.ports.doneIn ≠ s.params.doneTrueLevel →
    ∃ t, exec .status s = .next t ∧ t.out.rspData = 0x0100#16

/-- R164: a blocking command is accepted by an idle block, and then only selects its first micro-step; a busy block
rejects it, and the tick is otherwise that of no command. -/
def Obligations.BlockingAcceptedWhenIdleRejectedWhenBusy : Prop :=
  (∀ s : State, s.blk.seq = .idle →
    exec .relFpga s = .next { quietTick s with
      blk := { (quietTick s).blk with seq := .rfHiz, inRp := false }
      out := { rspValid := true, rspCode := 0#2, rspData := 0x0000#16, monEvt := (quietTick s).out.monEvt } } ∧
    exec .relMcu s = .next { quietTick s with
      blk := { (quietTick s).blk with seq := .rmDis }
      out := { rspValid := true, rspCode := 0#2, rspData := 0x0000#16, monEvt := (quietTick s).out.monEvt } } ∧
    exec .rstProg s = .next { quietTick s with
      blk := { (quietTick s).blk with seq := .sqMode, inRp := true, cfgTimeout := false }
      out := { rspValid := true, rspCode := 0#2, rspData := 0x0000#16, monEvt := (quietTick s).out.monEvt } }) ∧
  ∀ (s : State) (i : Instr), i ∈ [Instr.relFpga, Instr.relMcu, Instr.rstProg] → s.blk.seq ≠ .idle →
    exec i s = .next { quietTick s with
      out := { rspValid := true, rspCode := 1#2, rspData := 0x0000#16, monEvt := (quietTick s).out.monEvt } }

/-- R182: the six reserved code points answer `ILLEGAL`, and the tick is otherwise that of no command. -/
def Obligations.ReservedCommandsAnswerIllegal : Prop :=
  ∀ (s : State) (i : Instr),
    i ∈ [Instr.reservedA, Instr.reservedB, Instr.reservedC, Instr.reservedD, Instr.reservedE, Instr.reservedF] →
    exec i s = .next { quietTick s with
      out := { rspValid := true, rspCode := 2#2, rspData := 0x0000#16, monEvt := (quietTick s).out.monEvt } }

/-- R84: every command of a tick without reset is answered in that tick, and when each code is used. -/
def Obligations.EveryCommandIsAnswered : Prop :=
  ∀ s : State, s.ports.rst = false → s.ports.cmdValid = true → ∃ t, step s = .next t ∧
    t.out.rspValid = true ∧ t.out.rspCode ≠ 3#2 ∧
    (t.out.rspCode = 1#2 ↔ classOf (decodeCmd s.ports.cmd) = .blocking ∧ s.blk.seq ≠ .idle) ∧
    (t.out.rspCode = 2#2 ↔ classOf (decodeCmd s.ports.cmd) = .reserved) ∧
    (t.out.rspCode ≠ 0#2 → t.out.rspData = 0#16 ∧ t.blk = (quietTick s).blk)

/-- R163: the seven non-blocking commands are performed in every tick and never change a field of the arbiter or the
sequencer. That they touch neither the parameters nor the inputs to come is the model's form (log 1, log 3). -/
def Obligations.NonBlockingNeverDisturbs : Prop :=
  ∀ (s : State) (i : Instr),
    i ∈ [Instr.nop, Instr.isProg, Instr.arm, Instr.rdLatch, Instr.clrLatch, Instr.takeLatch, Instr.status] →
    ∃ t, exec i s = .next t ∧ t.out.rspCode = 0#2 ∧ SameSequencing t.blk (quietTick s).blk ∧
      t.params = s.params ∧ t.ports = s.ports ∧ t.trace = s.trace ∧ t.tick = s.tick

/-! ### The monitor and the micro-steps, in every tick without reset -/

/-- R141: the event, whatever command or micro-step shares the tick; the latch and `armed` otherwise. -/
def Obligations.FallingEdgeSetsTheLatch : Prop :=
  ∀ s : State, s.ports.rst = false → ∃ t, step s = .next t ∧
    (t.out.monEvt = true ↔ s.blk.armed = true ∧ s.blk.donePrev = true ∧ s.ports.doneIn = false) ∧
    t.blk.donePrev = s.ports.doneIn ∧
    (t.out.monEvt = true → t.blk.doneLatch = true) ∧
    (t.out.monEvt = false →
      t.blk.doneLatch =
        (s.blk.doneLatch && !presents s.ports .clrLatch && !presents s.ports .takeLatch)) ∧
    t.blk.armed = (s.blk.armed || presents s.ports .arm)

/-- R102: `RF_HIZ`. -/
def Obligations.RfHizFloatsThePins : Prop :=
  ∀ s : State, s.ports.rst = false → s.blk.seq = .rfHiz → ∃ t, step s = .next t ∧
    SameSequencing t.blk { s.blk with pinDrv := 0b0000#4, seq := .rfEn }

/-- R103: `RF_EN`. -/
def Obligations.RfEnAssertsDriveEnable : Prop :=
  ∀ s : State, s.ports.rst = false → s.blk.seq = .rfEn → ∃ t, step s = .next t ∧
    SameSequencing t.blk
      { s.blk with driveEn := true, owner := .fpga, timer := s.params.settleTicks, seq := .rfSettle }

/-- R107: `RM_DIS`. -/
def Obligations.RmDisDeassertsDriveEnable : Prop :=
  ∀ s : State, s.ports.rst = false → s.blk.seq = .rmDis → ∃ t, step s = .next t ∧
    SameSequencing t.blk
      { s.blk with driveEn := false, owner := .mcu, timer := s.params.settleTicks, seq := .rmSettle }

/-- R109: `RM_PINS`. -/
def Obligations.RmPinsReturnsThePins : Prop :=
  ∀ s : State, s.ports.rst = false → s.blk.seq = .rmPins → ∃ t, step s = .next t ∧
    SameSequencing t.blk { s.blk with pinDrv := 0b1111#4, seq := .idle }

/-- R104, R108, R125: one tick of each wait state, and where it ends. -/
def Obligations.WaitStatesCountDown : Prop :=
  ∀ s : State, s.ports.rst = false → (s.blk.seq = .rfSettle ∨ s.blk.seq = .rmSettle ∨ s.blk.seq = .sqLow) →
    ∃ t, step s = .next t ∧
      (1 < s.blk.timer → SameSequencing t.blk { s.blk with timer := s.blk.timer - 1 }) ∧
      (s.blk.timer ≤ 1 →
        (s.blk.seq = .rfSettle → s.blk.inRp = false →
          SameSequencing t.blk { s.blk with timer := 0, seq := .idle }) ∧
        (s.blk.seq = .rfSettle → s.blk.inRp = true →
          SameSequencing t.blk { s.blk with timer := 0, seq := .sqOut }) ∧
        (s.blk.seq = .rmSettle → SameSequencing t.blk { s.blk with timer := 0, seq := .rmPins }) ∧
        (s.blk.seq = .sqLow → SameSequencing t.blk { s.blk with timer := 0, seq := .sqHigh }))

/-- R122: `SQ_MODE`, and what the mode-select pins carry in the next state; that they go on carrying it is
`Obligations.ModeSelectAndLineHaveTheirWriters`. -/
def Obligations.SqModeDrivesModeSelect : Prop :=
  ∀ s : State, s.ports.rst = false → s.blk.seq = .sqMode → ∃ t, step s = .next t ∧
    SameSequencing t.blk { s.blk with modeSet := true, seq := .rfHiz } ∧
    (pins s.params t.blk).modeSelPin = some s.params.modeSelSpiValue

/-- R124: `SQ_OUT`; direction and low level together, so the line is driven low. -/
def Obligations.SqOutDrivesTheLineLow : Prop :=
  ∀ s : State, s.ports.rst = false → s.blk.seq = .sqOut → ∃ t, step s = .next t ∧
    SameSequencing t.blk
      { s.blk with progOe := true, progLvl := false, fpgaState := .inReset, timer := s.params.pulseTicks,
                   seq := .sqLow } ∧
    (pins s.params t.blk).progPin = some false

/-- R126: `SQ_HIGH`. -/
def Obligations.SqHighReleasesReset : Prop :=
  ∀ s : State, s.ports.rst = false → s.blk.seq = .sqHigh → ∃ t, step s = .next t ∧
    SameSequencing t.blk { s.blk with progLvl := true, fpgaState := .loading, pollCnt := 0, seq := .sqPoll }

/-- R128, one tick of `SQ_POLL`: success first, then the timeout, then one more failed sample. -/
def Obligations.SqPollSamplesDone : Prop :=
  ∀ s : State, s.ports.rst = false → s.blk.seq = .sqPoll → ∃ t, step s = .next t ∧
    (s.ports.doneIn = s.params.doneTrueLevel →
      SameSequencing t.blk { s.blk with fpgaState := .programmed, seq := .idle, inRp := false, pollCnt := 0 }) ∧
    (s.ports.doneIn ≠ s.params.doneTrueLevel →
      (s.params.timeoutTicks = none → SameSequencing t.blk s.blk) ∧
      (∀ n, s.params.timeoutTicks = some n → s.blk.pollCnt + 1 ≥ n →
        SameSequencing t.blk { s.blk with cfgTimeout := true, seq := .idle, inRp := false, pollCnt := 0 }) ∧
      (∀ n, s.params.timeoutTicks = some n → s.blk.pollCnt + 1 < n →
        SameSequencing t.blk { s.blk with pollCnt := s.blk.pollCnt + 1 }))

/-- R171: each registered output, from the pre-state alone. -/
def Obligations.PinsShowThePreState : Prop :=
  ∀ (p : Params) (b : Block),
    (pins p b).spiOe = b.pinDrv ∧
    (b.driveEn = true → (pins p b).driveEnPin = p.driveEnActiveLevel) ∧
    (b.driveEn = false → (pins p b).driveEnPin ≠ p.driveEnActiveLevel) ∧
    (b.modeSet = true → (pins p b).modeSelPin = some p.modeSelSpiValue) ∧
    (b.modeSet = false → (pins p b).modeSelPin = none) ∧
    (b.progOe = true → (pins p b).progPin = some b.progLvl) ∧
    (b.progOe = false → (pins p b).progPin = none) ∧
    ((pins p b).busyPin = true ↔ b.seq ≠ .idle) ∧
    (p.hasIndicator = true → ((pins p b).indicator = some true ↔ b.fpgaState = .programmed)) ∧
    (p.hasIndicator = false → (pins p b).indicator = none) ∧
    (pins p b).cfgTimeoutOut = b.cfgTimeout ∧ (pins p b).latchOut = b.doneLatch

/-! ### Invariants -/

/-- The OPEN parameters of the reset state meet every constraint of R7 to R11, whatever the free constants are (the
model's construction, log 2), and the decided ones have the spec's values. -/
def Obligations.OpenParametersAreAdmissible : Prop :=
  State.reset.params.wf = true ∧ State.reset.params.doneTrueLevel = true ∧ State.reset.params.hasIndicator = true

/-- `RESET_STATE` is a safe block, for every admissible parameter record. `SafeBlock` is R44 to R46, which the spec marks
as its own inferences, the bounds of R30 to R32, and the model's own `AtMicroStep`. -/
def Obligations.ResetStateIsSafe : Prop :=
  ∀ p : Params, p.wf = true → SafeBlock p Block.reset

/-- Every step from a safe block gives a safe block: R44, R45, R46, which the spec marks as its own inferences, the bounds
of R30 to R32 and the model's own `AtMicroStep`, whatever the ports show. -/
def Obligations.StepKeepsTheBlockSafe : Prop :=
  ∀ s t : State, s.params.wf = true → SafeBlock s.params s.blk → step s = .next t → SafeBlock t.params t.blk

/-- In every run from `RESET_STATE`, for all inputs and all admissible parameters: owner and signal agree (R44), never two
drivers, the pins switch together (R45), the sequencer is consistent (R46), and the counters fit `TIMER_WIDTH`. The spec
marks R44 to R46 as its own inferences. -/
def Obligations.RunsFromResetStateStaySafe : Prop :=
  ∀ (n : Nat) (s : State), s.params.wf = true → s.blk = Block.reset → ∃ t, ticks n s = .next t ∧
    (t.blk.owner = .fpga ↔ t.blk.driveEn = true) ∧
    (t.blk.driveEn = true → t.blk.pinDrv = 0b0000#4) ∧
    (t.blk.pinDrv = 0b0000#4 ∨ t.blk.pinDrv = 0b1111#4) ∧
    (t.blk.progOe = false → t.blk.fpgaState = .inReset) ∧
    (t.blk.progOe = true → (t.blk.progLvl = false ↔ t.blk.fpgaState = .inReset)) ∧
    (t.blk.fpgaState ≠ .inReset → t.blk.modeSet = true ∧ t.blk.progOe = true) ∧
    (t.blk.seq = .idle → t.blk.inRp = false ∧ t.blk.timer = 0 ∧ t.blk.pollCnt = 0) ∧
    (t.blk.timer ≠ 0 ↔ t.blk.seq = .rfSettle ∨ t.blk.seq = .rmSettle ∨ t.blk.seq = .sqLow) ∧
    (t.blk.cfgTimeout = true → s.params.timeoutTicks ≠ none) ∧
    t.blk.timer < 2 ^ s.params.timerWidth ∧ t.blk.pollCnt < 2 ^ s.params.timerWidth

/-- The first sentence of R47, which the spec marks as its own inference: from a safe block with an operation running, in every later idle state with no reset on the way, the MCU owns
the bus exactly when its pins drive, and the FPGA exactly when they float. -/
def Obligations.CompletedOperationLeavesDriverAsOwner : Prop :=
  ∀ (n : Nat) (s t : State), s.params.wf = true → SafeBlock s.params s.blk → s.blk.seq ≠ .idle → NoReset s n →
    ticks n s = .next t → t.blk.seq = .idle → DriverIsOwner t.blk

/-! ### Which step may change what -/

/-- R23, R24, R25: the arbiter's fields change in their micro-steps only, or at reset. -/
def Obligations.ArbiterFieldsHaveTheirWriters : Prop :=
  ∀ s t : State, s.ports.rst = false → step s = .next t →
    (t.blk.owner ≠ s.blk.owner →
      (s.blk.seq = .rfEn ∧ t.blk.owner = .fpga) ∨ (s.blk.seq = .rmDis ∧ t.blk.owner = .mcu)) ∧
    (t.blk.driveEn ≠ s.blk.driveEn →
      (s.blk.seq = .rfEn ∧ t.blk.driveEn = true) ∨ (s.blk.seq = .rmDis ∧ t.blk.driveEn = false)) ∧
    (t.blk.pinDrv ≠ s.blk.pinDrv →
      (s.blk.seq = .rfHiz ∧ t.blk.pinDrv = 0b0000#4) ∨ (s.blk.seq = .rmPins ∧ t.blk.pinDrv = 0b1111#4))

/-- R30: the one way `cfg_timeout` is set, the one way a command clears it, and that it is kept otherwise. -/
def Obligations.TimeoutFlagIsSticky : Prop :=
  ∀ s : State, ∃ t, step s = .next t ∧
    (s.ports.rst = true → t.blk.cfgTimeout = false) ∧
    (s.ports.rst = false →
      (∀ n, s.blk.seq = .sqPoll → s.ports.doneIn ≠ s.params.doneTrueLevel → s.params.timeoutTicks = some n →
        n ≤ s.blk.pollCnt + 1 → t.blk.cfgTimeout = true) ∧
      (s.blk.seq = .idle → presents s.ports .rstProg = true → t.blk.cfgTimeout = false) ∧
      ((¬ ∃ n, s.blk.seq = .sqPoll ∧ s.ports.doneIn ≠ s.params.doneTrueLevel ∧ s.params.timeoutTicks = some n ∧
          n ≤ s.blk.pollCnt + 1) →
        ¬ (s.blk.seq = .idle ∧ presents s.ports .rstProg = true) → t.blk.cfgTimeout = s.blk.cfgTimeout))

/-- R133: the graph of `fpga_state`; no transition skips `Loading`. -/
def Obligations.FpgaStateNeverSkipsLoading : Prop :=
  ∀ s t : State, s.params.wf = true → SafeBlock s.params s.blk → step s = .next t →
    t.blk.fpgaState ≠ s.blk.fpgaState →
    (t.blk.fpgaState = .inReset ∧ (s.ports.rst = true ∨ s.blk.seq = .sqOut)) ∨
    (s.blk.fpgaState = .inReset ∧ t.blk.fpgaState = .loading ∧ s.ports.rst = false ∧ s.blk.seq = .sqHigh) ∨
    (s.blk.fpgaState = .loading ∧ t.blk.fpgaState = .programmed ∧ s.ports.rst = false ∧ s.blk.seq = .sqPoll ∧
      s.ports.doneIn = s.params.doneTrueLevel)

/-- R132: the indicator rises in the tick of a successful done sample and in no other, and falls at the next `SQ_OUT` or
at reset and nowhere else. -/
def Obligations.IndicatorRisesOncePerSuccess : Prop :=
  ∀ s t : State, s.params.wf = true → SafeBlock s.params s.blk → s.params.hasIndicator = true → step s = .next t →
    ((pins s.params s.blk).indicator = some false ∧ (pins t.params t.blk).indicator = some true ↔
      s.ports.rst = false ∧ s.blk.seq = .sqPoll ∧ s.ports.doneIn = s.params.doneTrueLevel) ∧
    ((pins s.params s.blk).indicator = some true →
      ((pins t.params t.blk).indicator = some false ↔ s.ports.rst = true ∨ s.blk.seq = .sqOut))

/-- R121: whenever the reset/program line goes from low to high, the state before it has the bus with the FPGA, the MCU's
pins floating and mode-select driven. -/
def Obligations.ResetReleasedOnlyWithTheBusAtTheFpga : Prop :=
  ∀ s t : State, s.params.wf = true → SafeBlock s.params s.blk → step s = .next t →
    (pins s.params s.blk).progPin = some false → (pins t.params t.blk).progPin = some true →
    s.blk.seq = .sqHigh ∧ s.blk.owner = .fpga ∧ s.blk.driveEn = true ∧ s.blk.pinDrv = 0b0000#4 ∧
      s.blk.modeSet = true ∧ s.blk.fpgaState = .inReset ∧ t.blk.fpgaState = .loading

/-- R33: the latch is set by a monitor event only, and cleared by `CLR_LATCH`, `TAKE_LATCH` or reset only. -/
def Obligations.LatchIsNeverClearedAutomatically : Prop :=
  ∀ s t : State, step s = .next t → t.blk.doneLatch ≠ s.blk.doneLatch →
    (t.blk.doneLatch = true ∧ t.out.monEvt = true ∧ s.ports.rst = false ∧ s.blk.armed = true ∧
      s.blk.donePrev = true ∧ s.ports.doneIn = false) ∨
    (t.blk.doneLatch = false ∧
      (s.ports.rst = true ∨ presents s.ports .clrLatch = true ∨ presents s.ports .takeLatch = true))

/-! ### Runs of many ticks -/

/-- R105: when each thing happens after an accepted `REL_FPGA`, whatever commands follow it. -/
def Obligations.RelFpgaTiming : Prop :=
  ∀ s : State, s.params.wf = true → s.blk.seq = .idle → presents s.ports .relFpga = true →
    NoReset s (s.params.settleTicks + 3) →
    ∀ k, k ≤ s.params.settleTicks + 3 → ∃ t, ticks k s = .next t ∧
      t.blk.pinDrv = (if 2 ≤ k then 0b0000#4 else s.blk.pinDrv) ∧
      t.blk.driveEn = (if 3 ≤ k then true else s.blk.driveEn) ∧
      t.blk.owner = (if 3 ≤ k then .fpga else s.blk.owner) ∧
      (busy t.blk = true ↔ 1 ≤ k ∧ k ≤ s.params.settleTicks + 2)

/-- R110: when each thing happens after an accepted `REL_MCU`; the FPGA's configuration is not touched (R106). -/
def Obligations.RelMcuTiming : Prop :=
  ∀ s : State, s.params.wf = true → s.blk.seq = .idle → presents s.ports .relMcu = true →
    NoReset s (s.params.settleTicks + 3) →
    ∀ k, k ≤ s.params.settleTicks + 3 → ∃ t, ticks k s = .next t ∧
      t.blk.driveEn = (if 2 ≤ k then false else s.blk.driveEn) ∧
      t.blk.owner = (if 2 ≤ k then .mcu else s.blk.owner) ∧
      t.blk.pinDrv = (if s.params.settleTicks + 3 ≤ k then 0b1111#4 else s.blk.pinDrv) ∧
      (busy t.blk = true ↔ 1 ≤ k ∧ k ≤ s.params.settleTicks + 2) ∧
      t.blk.modeSet = s.blk.modeSet ∧ t.blk.progOe = s.blk.progOe ∧ t.blk.progLvl = s.blk.progLvl ∧
      t.blk.fpgaState = s.blk.fpgaState ∧ t.blk.cfgTimeout = s.blk.cfgTimeout

/-- R129, up to the first done sample: when each thing happens after an accepted `RST_PROG`, with `L` and `P` the settle
and pulse counts. -/
def Obligations.RstProgTiming : Prop :=
  ∀ (s : State) (L P : Nat), s.params.wf = true → s.params.settleTicks = L → s.params.pulseTicks = P →
    s.blk.seq = .idle → presents s.ports .rstProg = true → NoReset s (L + P + 6) →
    ∀ k, 1 ≤ k → k ≤ L + P + 6 → ∃ t, ticks k s = .next t ∧
      busy t.blk = true ∧ t.blk.inRp = true ∧ t.blk.cfgTimeout = false ∧
      t.blk.modeSet = (if 2 ≤ k then true else s.blk.modeSet) ∧
      t.blk.pinDrv = (if 3 ≤ k then 0b0000#4 else s.blk.pinDrv) ∧
      t.blk.driveEn = (if 4 ≤ k then true else s.blk.driveEn) ∧
      t.blk.owner = (if 4 ≤ k then .fpga else s.blk.owner) ∧
      progPin t.blk = (if k < L + 5 then progPin s.blk else if k ≤ L + P + 5 then some false else some true) ∧
      t.blk.fpgaState =
        (if k < L + 5 then s.blk.fpgaState else if k ≤ L + P + 5 then .inReset else .loading) ∧
      (t.blk.seq = .sqPoll ↔ k = L + P + 6)

/-- R127: from the tick that first drives the line low, the line is low in exactly `PULSE_TICKS + 1` states and then high,
and that lasts more than the 50 µs bound. -/
def Obligations.PulseLastsAtLeastItsMinimum : Prop :=
  ∀ s : State, s.params.wf = true → s.blk.seq = .sqOut → NoReset s (s.params.pulseTicks + 2) →
    (∀ k, 1 ≤ k → k ≤ s.params.pulseTicks + 1 → ∃ t, ticks k s = .next t ∧ progPin t.blk = some false) ∧
    (∃ t, ticks (s.params.pulseTicks + 2) s = .next t ∧ progPin t.blk = some true) ∧
    50000 + s.params.tickNs ≤ (s.params.pulseTicks + 1) * s.params.tickNs

/-- R129: an accepted `RST_PROG` whose first done-true sample is the poll's sample number `m` (from 0), within the bound
if there is one, ends right after that sample with the FPGA programmed; it is busy until then. -/
def Obligations.RstProgSucceedsWhenDoneComesInTime : Prop :=
  ∀ (s : State) (p0 m : Nat), s.params.wf = true → p0 = s.params.settleTicks + s.params.pulseTicks + 6 →
    s.blk.seq = .idle → presents s.ports .rstProg = true → NoReset s (p0 + m + 1) →
    (∀ j, j < m → doneAt s (p0 + j) = false) → doneAt s (p0 + m) = true →
    (∀ n, s.params.timeoutTicks = some n → m < n) →
    (∀ k, 1 ≤ k → k ≤ p0 + m → ∃ t, ticks k s = .next t ∧ busy t.blk = true) ∧
    ∃ t, ticks (p0 + m + 1) s = .next t ∧ t.blk.seq = .idle ∧ t.blk.inRp = false ∧
      t.blk.fpgaState = .programmed ∧ t.blk.cfgTimeout = false ∧ t.blk.owner = .fpga ∧ t.blk.driveEn = true ∧
      t.blk.pinDrv = 0b0000#4 ∧ t.blk.modeSet = true ∧ progPin t.blk = some true ∧
      t.blk.timer = 0 ∧ t.blk.pollCnt = 0

/-- R183: in the hardened variant an accepted `RST_PROG` whose `T` done samples are all false ends after exactly those
samples with `cfg_timeout` set, `Loading`, the line high and the bus with the FPGA. -/
def Obligations.ConfigurationTimeoutIsExact : Prop :=
  ∀ (s : State) (p0 T : Nat), s.params.wf = true → p0 = s.params.settleTicks + s.params.pulseTicks + 6 →
    s.params.timeoutTicks = some T → s.blk.seq = .idle → presents s.ports .rstProg = true → NoReset s (p0 + T) →
    (∀ j, j < T → doneAt s (p0 + j) = false) →
    (∀ k, 1 ≤ k → k < p0 + T → ∃ t, ticks k s = .next t ∧ busy t.blk = true ∧ t.blk.cfgTimeout = false) ∧
    ∃ t, ticks (p0 + T) s = .next t ∧ t.blk.seq = .idle ∧ t.blk.cfgTimeout = true ∧ t.blk.fpgaState = .loading ∧
      progPin t.blk = some true ∧ t.blk.owner = .fpga ∧ t.blk.driveEn = true

/-- R217: in the baseline an accepted `RST_PROG` whose done samples are all false is still busy after any number of ticks,
with `poll_cnt` at 0, and every blocking command is then rejected while `IS_PROG` is answered. -/
def Obligations.BaselinePollNeverEnds : Prop :=
  ∀ (s : State) (p0 n : Nat), s.params.wf = true → p0 = s.params.settleTicks + s.params.pulseTicks + 6 →
    s.params.timeoutTicks = none → s.blk.seq = .idle → s.blk.pollCnt = 0 → presents s.ports .rstProg = true →
    NoReset s (n + 1) → (∀ k, p0 ≤ k → k ≤ n → doneAt s k = false) →
    ∃ t, ticks (n + 1) s = .next t ∧ busy t.blk = true ∧ t.blk.pollCnt = 0 ∧ t.blk.cfgTimeout = false ∧
      (p0 ≤ n + 1 → t.blk.seq = .sqPoll ∧ t.blk.fpgaState = .loading) ∧
      (∀ i ∈ [Instr.relFpga, Instr.relMcu, Instr.rstProg], ∃ u, exec i t = .next u ∧ u.out.rspCode = 1#2) ∧
      ∃ u, exec .isProg t = .next u ∧ u.out.rspValid = true ∧ u.out.rspCode = 0#2

/-- R70, R71: a detected edge is reported by every later read until a clear that comes in a later tick, whatever clears came
with it. -/
def Obligations.EdgeIsNeverLostToAClear : Prop :=
  ∀ (n : Nat) (s : State), s.blk.armed = true → s.blk.donePrev = true → s.ports.doneIn = false →
    NoReset s (n + 1) →
    (∀ k, 1 ≤ k → k ≤ n →
      presents (s.inputAt k) .clrLatch = false ∧ presents (s.inputAt k) .takeLatch = false) →
    ∃ t, ticks (n + 1) s = .next t ∧ t.blk.doneLatch = true ∧
      (∃ u, exec .rdLatch t = .next u ∧ u.out.rspData = 0x0001#16) ∧
      (∃ u, exec .takeLatch t = .next u ∧ u.out.rspData = 0x0001#16) ∧
      ∃ u, exec .status t = .next u ∧ u.out.rspData.getLsbD 12 = true

/-- R75, R76, R150: the monitor's side influences nothing else. Two runs with the same parameters whose blocks agree on
the twelve fields of the arbiter and the sequencer, and whose inputs agree but for monitor commands (`ARM`, `RD_LATCH`,
`CLR_LATCH`, `TAKE_LATCH`) replaced by `NOP`, agree on the twelve fields after every number of ticks. -/
def Obligations.MonitorSideInfluencesNothingElse : Prop :=
  ∀ (n : Nat) (s s' : State), s.params = s'.params → SameSequencing s.blk s'.blk →
    (∀ k, k < n → eraseMonitorCommand (s.inputAt k) = eraseMonitorCommand (s'.inputAt k)) →
    ∃ t t', ticks n s = .next t ∧ ticks n s' = .next t' ∧ SameSequencing t.blk t'.blk

/-! ### The idle biconditional step by step, and the sequencer's writers -/

/-- The step form of R47, the spec's own inference: a step without reset from a safe block that is busy, or idle with the
owner driving, gives such a block again. -/
def Obligations.StepKeepsTheDriverAsOwner : Prop :=
  ∀ s t : State, s.params.wf = true → SafeBlock s.params s.blk → (s.blk.seq ≠ .idle ∨ DriverIsOwner s.blk) →
    s.ports.rst = false → step s = .next t →
    SafeBlock t.params t.blk ∧ (t.blk.seq ≠ .idle ∨ DriverIsOwner t.blk)

/-- The second sentence of R47, the spec's own inference: from `RESET_STATE`, as long as no operation has run, the MCU is
the owner and nobody drives. -/
def Obligations.NobodyDrivesBeforeTheFirstOperation : Prop :=
  ∀ (n : Nat) (s : State), s.blk = Block.reset →
    (∀ k, k ≤ n → ∃ t, ticks k s = .next t ∧ t.blk.seq = .idle) →
    ∃ t, ticks n s = .next t ∧ t.blk.owner = .mcu ∧ t.blk.driveEn = false ∧ t.blk.pinDrv = 0b0000#4

/-- R26, R27, R28: mode-select and the line's direction are set in their micro-steps and kept until reset; the line's
level changes in its two micro-steps only. -/
def Obligations.ModeSelectAndLineHaveTheirWriters : Prop :=
  ∀ s t : State, s.ports.rst = false → step s = .next t →
    (t.blk.modeSet = true ↔ s.blk.modeSet = true ∨ s.blk.seq = .sqMode) ∧
    (t.blk.progOe = true ↔ s.blk.progOe = true ∨ s.blk.seq = .sqOut) ∧
    (s.blk.seq = .sqOut → t.blk.progLvl = false) ∧
    (s.blk.seq = .sqHigh → t.blk.progLvl = true) ∧
    (s.blk.seq ≠ .sqOut → s.blk.seq ≠ .sqHigh → t.blk.progLvl = s.blk.progLvl)
end

