-- ==== Sys2Proof/Laws/State.lean ====
section
/-! SUPPORT. One lemma per field per update, true by `rfl`, so that no proof unfolds a record update. -/

namespace Sys2Proof.Machine

/-! ### `startRelFpga` -/

@[simp] theorem startRelFpga_seq (b : Block) :
    (startRelFpga b).seq = .rfHiz := rfl
@[simp] theorem startRelFpga_inRp (b : Block) :
    (startRelFpga b).inRp = false := rfl
@[simp] theorem startRelFpga_owner (b : Block) :
    (startRelFpga b).owner = b.owner := rfl
@[simp] theorem startRelFpga_pinDrv (b : Block) :
    (startRelFpga b).pinDrv = b.pinDrv := rfl
@[simp] theorem startRelFpga_driveEn (b : Block) :
    (startRelFpga b).driveEn = b.driveEn := rfl
@[simp] theorem startRelFpga_modeSet (b : Block) :
    (startRelFpga b).modeSet = b.modeSet := rfl
@[simp] theorem startRelFpga_progOe (b : Block) :
    (startRelFpga b).progOe = b.progOe := rfl
@[simp] theorem startRelFpga_progLvl (b : Block) :
    (startRelFpga b).progLvl = b.progLvl := rfl
@[simp] theorem startRelFpga_fpgaState (b : Block) :
    (startRelFpga b).fpgaState = b.fpgaState := rfl
@[simp] theorem startRelFpga_cfgTimeout (b : Block) :
    (startRelFpga b).cfgTimeout = b.cfgTimeout := rfl
@[simp] theorem startRelFpga_timer (b : Block) :
    (startRelFpga b).timer = b.timer := rfl
@[simp] theorem startRelFpga_pollCnt (b : Block) :
    (startRelFpga b).pollCnt = b.pollCnt := rfl
@[simp] theorem startRelFpga_doneLatch (b : Block) :
    (startRelFpga b).doneLatch = b.doneLatch := rfl
@[simp] theorem startRelFpga_armed (b : Block) :
    (startRelFpga b).armed = b.armed := rfl
@[simp] theorem startRelFpga_donePrev (b : Block) :
    (startRelFpga b).donePrev = b.donePrev := rfl

/-! ### `startRelMcu` -/

@[simp] theorem startRelMcu_seq (b : Block) :
    (startRelMcu b).seq = .rmDis := rfl
@[simp] theorem startRelMcu_inRp (b : Block) :
    (startRelMcu b).inRp = b.inRp := rfl
@[simp] theorem startRelMcu_owner (b : Block) :
    (startRelMcu b).owner = b.owner := rfl
@[simp] theorem startRelMcu_pinDrv (b : Block) :
    (startRelMcu b).pinDrv = b.pinDrv := rfl
@[simp] theorem startRelMcu_driveEn (b : Block) :
    (startRelMcu b).driveEn = b.driveEn := rfl
@[simp] theorem startRelMcu_modeSet (b : Block) :
    (startRelMcu b).modeSet = b.modeSet := rfl
@[simp] theorem startRelMcu_progOe (b : Block) :
    (startRelMcu b).progOe = b.progOe := rfl
@[simp] theorem startRelMcu_progLvl (b : Block) :
    (startRelMcu b).progLvl = b.progLvl := rfl
@[simp] theorem startRelMcu_fpgaState (b : Block) :
    (startRelMcu b).fpgaState = b.fpgaState := rfl
@[simp] theorem startRelMcu_cfgTimeout (b : Block) :
    (startRelMcu b).cfgTimeout = b.cfgTimeout := rfl
@[simp] theorem startRelMcu_timer (b : Block) :
    (startRelMcu b).timer = b.timer := rfl
@[simp] theorem startRelMcu_pollCnt (b : Block) :
    (startRelMcu b).pollCnt = b.pollCnt := rfl
@[simp] theorem startRelMcu_doneLatch (b : Block) :
    (startRelMcu b).doneLatch = b.doneLatch := rfl
@[simp] theorem startRelMcu_armed (b : Block) :
    (startRelMcu b).armed = b.armed := rfl
@[simp] theorem startRelMcu_donePrev (b : Block) :
    (startRelMcu b).donePrev = b.donePrev := rfl

/-! ### `startRstProg` -/

@[simp] theorem startRstProg_seq (b : Block) :
    (startRstProg b).seq = .sqMode := rfl
@[simp] theorem startRstProg_inRp (b : Block) :
    (startRstProg b).inRp = true := rfl
@[simp] theorem startRstProg_owner (b : Block) :
    (startRstProg b).owner = b.owner := rfl
@[simp] theorem startRstProg_pinDrv (b : Block) :
    (startRstProg b).pinDrv = b.pinDrv := rfl
@[simp] theorem startRstProg_driveEn (b : Block) :
    (startRstProg b).driveEn = b.driveEn := rfl
@[simp] theorem startRstProg_modeSet (b : Block) :
    (startRstProg b).modeSet = b.modeSet := rfl
@[simp] theorem startRstProg_progOe (b : Block) :
    (startRstProg b).progOe = b.progOe := rfl
@[simp] theorem startRstProg_progLvl (b : Block) :
    (startRstProg b).progLvl = b.progLvl := rfl
@[simp] theorem startRstProg_fpgaState (b : Block) :
    (startRstProg b).fpgaState = b.fpgaState := rfl
@[simp] theorem startRstProg_cfgTimeout (b : Block) :
    (startRstProg b).cfgTimeout = false := rfl
@[simp] theorem startRstProg_timer (b : Block) :
    (startRstProg b).timer = b.timer := rfl
@[simp] theorem startRstProg_pollCnt (b : Block) :
    (startRstProg b).pollCnt = b.pollCnt := rfl
@[simp] theorem startRstProg_doneLatch (b : Block) :
    (startRstProg b).doneLatch = b.doneLatch := rfl
@[simp] theorem startRstProg_armed (b : Block) :
    (startRstProg b).armed = b.armed := rfl
@[simp] theorem startRstProg_donePrev (b : Block) :
    (startRstProg b).donePrev = b.donePrev := rfl

/-! ### `microRfHiz` -/

@[simp] theorem microRfHiz_seq (b : Block) :
    (microRfHiz b).seq = .rfEn := rfl
@[simp] theorem microRfHiz_inRp (b : Block) :
    (microRfHiz b).inRp = b.inRp := rfl
@[simp] theorem microRfHiz_owner (b : Block) :
    (microRfHiz b).owner = b.owner := rfl
@[simp] theorem microRfHiz_pinDrv (b : Block) :
    (microRfHiz b).pinDrv = 0b0000#4 := rfl
@[simp] theorem microRfHiz_driveEn (b : Block) :
    (microRfHiz b).driveEn = b.driveEn := rfl
@[simp] theorem microRfHiz_modeSet (b : Block) :
    (microRfHiz b).modeSet = b.modeSet := rfl
@[simp] theorem microRfHiz_progOe (b : Block) :
    (microRfHiz b).progOe = b.progOe := rfl
@[simp] theorem microRfHiz_progLvl (b : Block) :
    (microRfHiz b).progLvl = b.progLvl := rfl
@[simp] theorem microRfHiz_fpgaState (b : Block) :
    (microRfHiz b).fpgaState = b.fpgaState := rfl
@[simp] theorem microRfHiz_cfgTimeout (b : Block) :
    (microRfHiz b).cfgTimeout = b.cfgTimeout := rfl
@[simp] theorem microRfHiz_timer (b : Block) :
    (microRfHiz b).timer = b.timer := rfl
@[simp] theorem microRfHiz_pollCnt (b : Block) :
    (microRfHiz b).pollCnt = b.pollCnt := rfl
@[simp] theorem microRfHiz_doneLatch (b : Block) :
    (microRfHiz b).doneLatch = b.doneLatch := rfl
@[simp] theorem microRfHiz_armed (b : Block) :
    (microRfHiz b).armed = b.armed := rfl
@[simp] theorem microRfHiz_donePrev (b : Block) :
    (microRfHiz b).donePrev = b.donePrev := rfl

/-! ### `microRfEn` -/

@[simp] theorem microRfEn_seq (p : Params) (b : Block) :
    (microRfEn p b).seq = .rfSettle := rfl
@[simp] theorem microRfEn_inRp (p : Params) (b : Block) :
    (microRfEn p b).inRp = b.inRp := rfl
@[simp] theorem microRfEn_owner (p : Params) (b : Block) :
    (microRfEn p b).owner = .fpga := rfl
@[simp] theorem microRfEn_pinDrv (p : Params) (b : Block) :
    (microRfEn p b).pinDrv = b.pinDrv := rfl
@[simp] theorem microRfEn_driveEn (p : Params) (b : Block) :
    (microRfEn p b).driveEn = true := rfl
@[simp] theorem microRfEn_modeSet (p : Params) (b : Block) :
    (microRfEn p b).modeSet = b.modeSet := rfl
@[simp] theorem microRfEn_progOe (p : Params) (b : Block) :
    (microRfEn p b).progOe = b.progOe := rfl
@[simp] theorem microRfEn_progLvl (p : Params) (b : Block) :
    (microRfEn p b).progLvl = b.progLvl := rfl
@[simp] theorem microRfEn_fpgaState (p : Params) (b : Block) :
    (microRfEn p b).fpgaState = b.fpgaState := rfl
@[simp] theorem microRfEn_cfgTimeout (p : Params) (b : Block) :
    (microRfEn p b).cfgTimeout = b.cfgTimeout := rfl
@[simp] theorem microRfEn_timer (p : Params) (b : Block) :
    (microRfEn p b).timer = p.settleTicks := rfl
@[simp] theorem microRfEn_pollCnt (p : Params) (b : Block) :
    (microRfEn p b).pollCnt = b.pollCnt := rfl
@[simp] theorem microRfEn_doneLatch (p : Params) (b : Block) :
    (microRfEn p b).doneLatch = b.doneLatch := rfl
@[simp] theorem microRfEn_armed (p : Params) (b : Block) :
    (microRfEn p b).armed = b.armed := rfl
@[simp] theorem microRfEn_donePrev (p : Params) (b : Block) :
    (microRfEn p b).donePrev = b.donePrev := rfl

/-! ### `microRmDis` -/

@[simp] theorem microRmDis_seq (p : Params) (b : Block) :
    (microRmDis p b).seq = .rmSettle := rfl
@[simp] theorem microRmDis_inRp (p : Params) (b : Block) :
    (microRmDis p b).inRp = b.inRp := rfl
@[simp] theorem microRmDis_owner (p : Params) (b : Block) :
    (microRmDis p b).owner = .mcu := rfl
@[simp] theorem microRmDis_pinDrv (p : Params) (b : Block) :
    (microRmDis p b).pinDrv = b.pinDrv := rfl
@[simp] theorem microRmDis_driveEn (p : Params) (b : Block) :
    (microRmDis p b).driveEn = false := rfl
@[simp] theorem microRmDis_modeSet (p : Params) (b : Block) :
    (microRmDis p b).modeSet = b.modeSet := rfl
@[simp] theorem microRmDis_progOe (p : Params) (b : Block) :
    (microRmDis p b).progOe = b.progOe := rfl
@[simp] theorem microRmDis_progLvl (p : Params) (b : Block) :
    (microRmDis p b).progLvl = b.progLvl := rfl
@[simp] theorem microRmDis_fpgaState (p : Params) (b : Block) :
    (microRmDis p b).fpgaState = b.fpgaState := rfl
@[simp] theorem microRmDis_cfgTimeout (p : Params) (b : Block) :
    (microRmDis p b).cfgTimeout = b.cfgTimeout := rfl
@[simp] theorem microRmDis_timer (p : Params) (b : Block) :
    (microRmDis p b).timer = p.settleTicks := rfl
@[simp] theorem microRmDis_pollCnt (p : Params) (b : Block) :
    (microRmDis p b).pollCnt = b.pollCnt := rfl
@[simp] theorem microRmDis_doneLatch (p : Params) (b : Block) :
    (microRmDis p b).doneLatch = b.doneLatch := rfl
@[simp] theorem microRmDis_armed (p : Params) (b : Block) :
    (microRmDis p b).armed = b.armed := rfl
@[simp] theorem microRmDis_donePrev (p : Params) (b : Block) :
    (microRmDis p b).donePrev = b.donePrev := rfl

/-! ### `microRmPins` -/

@[simp] theorem microRmPins_seq (b : Block) :
    (microRmPins b).seq = .idle := rfl
@[simp] theorem microRmPins_inRp (b : Block) :
    (microRmPins b).inRp = b.inRp := rfl
@[simp] theorem microRmPins_owner (b : Block) :
    (microRmPins b).owner = b.owner := rfl
@[simp] theorem microRmPins_pinDrv (b : Block) :
    (microRmPins b).pinDrv = 0b1111#4 := rfl
@[simp] theorem microRmPins_driveEn (b : Block) :
    (microRmPins b).driveEn = b.driveEn := rfl
@[simp] theorem microRmPins_modeSet (b : Block) :
    (microRmPins b).modeSet = b.modeSet := rfl
@[simp] theorem microRmPins_progOe (b : Block) :
    (microRmPins b).progOe = b.progOe := rfl
@[simp] theorem microRmPins_progLvl (b : Block) :
    (microRmPins b).progLvl = b.progLvl := rfl
@[simp] theorem microRmPins_fpgaState (b : Block) :
    (microRmPins b).fpgaState = b.fpgaState := rfl
@[simp] theorem microRmPins_cfgTimeout (b : Block) :
    (microRmPins b).cfgTimeout = b.cfgTimeout := rfl
@[simp] theorem microRmPins_timer (b : Block) :
    (microRmPins b).timer = b.timer := rfl
@[simp] theorem microRmPins_pollCnt (b : Block) :
    (microRmPins b).pollCnt = b.pollCnt := rfl
@[simp] theorem microRmPins_doneLatch (b : Block) :
    (microRmPins b).doneLatch = b.doneLatch := rfl
@[simp] theorem microRmPins_armed (b : Block) :
    (microRmPins b).armed = b.armed := rfl
@[simp] theorem microRmPins_donePrev (b : Block) :
    (microRmPins b).donePrev = b.donePrev := rfl

/-! ### `microSqMode` -/

@[simp] theorem microSqMode_seq (b : Block) :
    (microSqMode b).seq = .rfHiz := rfl
@[simp] theorem microSqMode_inRp (b : Block) :
    (microSqMode b).inRp = b.inRp := rfl
@[simp] theorem microSqMode_owner (b : Block) :
    (microSqMode b).owner = b.owner := rfl
@[simp] theorem microSqMode_pinDrv (b : Block) :
    (microSqMode b).pinDrv = b.pinDrv := rfl
@[simp] theorem microSqMode_driveEn (b : Block) :
    (microSqMode b).driveEn = b.driveEn := rfl
@[simp] theorem microSqMode_modeSet (b : Block) :
    (microSqMode b).modeSet = true := rfl
@[simp] theorem microSqMode_progOe (b : Block) :
    (microSqMode b).progOe = b.progOe := rfl
@[simp] theorem microSqMode_progLvl (b : Block) :
    (microSqMode b).progLvl = b.progLvl := rfl
@[simp] theorem microSqMode_fpgaState (b : Block) :
    (microSqMode b).fpgaState = b.fpgaState := rfl
@[simp] theorem microSqMode_cfgTimeout (b : Block) :
    (microSqMode b).cfgTimeout = b.cfgTimeout := rfl
@[simp] theorem microSqMode_timer (b : Block) :
    (microSqMode b).timer = b.timer := rfl
@[simp] theorem microSqMode_pollCnt (b : Block) :
    (microSqMode b).pollCnt = b.pollCnt := rfl
@[simp] theorem microSqMode_doneLatch (b : Block) :
    (microSqMode b).doneLatch = b.doneLatch := rfl
@[simp] theorem microSqMode_armed (b : Block) :
    (microSqMode b).armed = b.armed := rfl
@[simp] theorem microSqMode_donePrev (b : Block) :
    (microSqMode b).donePrev = b.donePrev := rfl

/-! ### `microSqOut` -/

@[simp] theorem microSqOut_seq (p : Params) (b : Block) :
    (microSqOut p b).seq = .sqLow := rfl
@[simp] theorem microSqOut_inRp (p : Params) (b : Block) :
    (microSqOut p b).inRp = b.inRp := rfl
@[simp] theorem microSqOut_owner (p : Params) (b : Block) :
    (microSqOut p b).owner = b.owner := rfl
@[simp] theorem microSqOut_pinDrv (p : Params) (b : Block) :
    (microSqOut p b).pinDrv = b.pinDrv := rfl
@[simp] theorem microSqOut_driveEn (p : Params) (b : Block) :
    (microSqOut p b).driveEn = b.driveEn := rfl
@[simp] theorem microSqOut_modeSet (p : Params) (b : Block) :
    (microSqOut p b).modeSet = b.modeSet := rfl
@[simp] theorem microSqOut_progOe (p : Params) (b : Block) :
    (microSqOut p b).progOe = true := rfl
@[simp] theorem microSqOut_progLvl (p : Params) (b : Block) :
    (microSqOut p b).progLvl = false := rfl
@[simp] theorem microSqOut_fpgaState (p : Params) (b : Block) :
    (microSqOut p b).fpgaState = .inReset := rfl
@[simp] theorem microSqOut_cfgTimeout (p : Params) (b : Block) :
    (microSqOut p b).cfgTimeout = b.cfgTimeout := rfl
@[simp] theorem microSqOut_timer (p : Params) (b : Block) :
    (microSqOut p b).timer = p.pulseTicks := rfl
@[simp] theorem microSqOut_pollCnt (p : Params) (b : Block) :
    (microSqOut p b).pollCnt = b.pollCnt := rfl
@[simp] theorem microSqOut_doneLatch (p : Params) (b : Block) :
    (microSqOut p b).doneLatch = b.doneLatch := rfl
@[simp] theorem microSqOut_armed (p : Params) (b : Block) :
    (microSqOut p b).armed = b.armed := rfl
@[simp] theorem microSqOut_donePrev (p : Params) (b : Block) :
    (microSqOut p b).donePrev = b.donePrev := rfl

/-! ### `microSqHigh` -/

@[simp] theorem microSqHigh_seq (b : Block) :
    (microSqHigh b).seq = .sqPoll := rfl
@[simp] theorem microSqHigh_inRp (b : Block) :
    (microSqHigh b).inRp = b.inRp := rfl
@[simp] theorem microSqHigh_owner (b : Block) :
    (microSqHigh b).owner = b.owner := rfl
@[simp] theorem microSqHigh_pinDrv (b : Block) :
    (microSqHigh b).pinDrv = b.pinDrv := rfl
@[simp] theorem microSqHigh_driveEn (b : Block) :
    (microSqHigh b).driveEn = b.driveEn := rfl
@[simp] theorem microSqHigh_modeSet (b : Block) :
    (microSqHigh b).modeSet = b.modeSet := rfl
@[simp] theorem microSqHigh_progOe (b : Block) :
    (microSqHigh b).progOe = b.progOe := rfl
@[simp] theorem microSqHigh_progLvl (b : Block) :
    (microSqHigh b).progLvl = true := rfl
@[simp] theorem microSqHigh_fpgaState (b : Block) :
    (microSqHigh b).fpgaState = .loading := rfl
@[simp] theorem microSqHigh_cfgTimeout (b : Block) :
    (microSqHigh b).cfgTimeout = b.cfgTimeout := rfl
@[simp] theorem microSqHigh_timer (b : Block) :
    (microSqHigh b).timer = b.timer := rfl
@[simp] theorem microSqHigh_pollCnt (b : Block) :
    (microSqHigh b).pollCnt = 0 := rfl
@[simp] theorem microSqHigh_doneLatch (b : Block) :
    (microSqHigh b).doneLatch = b.doneLatch := rfl
@[simp] theorem microSqHigh_armed (b : Block) :
    (microSqHigh b).armed = b.armed := rfl
@[simp] theorem microSqHigh_donePrev (b : Block) :
    (microSqHigh b).donePrev = b.donePrev := rfl

/-! ### `endRstProg` -/

@[simp] theorem endRstProg_seq (b : Block) :
    (endRstProg b).seq = .idle := rfl
@[simp] theorem endRstProg_inRp (b : Block) :
    (endRstProg b).inRp = false := rfl
@[simp] theorem endRstProg_owner (b : Block) :
    (endRstProg b).owner = b.owner := rfl
@[simp] theorem endRstProg_pinDrv (b : Block) :
    (endRstProg b).pinDrv = b.pinDrv := rfl
@[simp] theorem endRstProg_driveEn (b : Block) :
    (endRstProg b).driveEn = b.driveEn := rfl
@[simp] theorem endRstProg_modeSet (b : Block) :
    (endRstProg b).modeSet = b.modeSet := rfl
@[simp] theorem endRstProg_progOe (b : Block) :
    (endRstProg b).progOe = b.progOe := rfl
@[simp] theorem endRstProg_progLvl (b : Block) :
    (endRstProg b).progLvl = b.progLvl := rfl
@[simp] theorem endRstProg_fpgaState (b : Block) :
    (endRstProg b).fpgaState = b.fpgaState := rfl
@[simp] theorem endRstProg_cfgTimeout (b : Block) :
    (endRstProg b).cfgTimeout = b.cfgTimeout := rfl
@[simp] theorem endRstProg_timer (b : Block) :
    (endRstProg b).timer = b.timer := rfl
@[simp] theorem endRstProg_pollCnt (b : Block) :
    (endRstProg b).pollCnt = 0 := rfl
@[simp] theorem endRstProg_doneLatch (b : Block) :
    (endRstProg b).doneLatch = b.doneLatch := rfl
@[simp] theorem endRstProg_armed (b : Block) :
    (endRstProg b).armed = b.armed := rfl
@[simp] theorem endRstProg_donePrev (b : Block) :
    (endRstProg b).donePrev = b.donePrev := rfl

/-! ### `applyArm` -/

@[simp] theorem applyArm_seq (arm : Bool) (b : Block) :
    (applyArm arm b).seq = b.seq := rfl
@[simp] theorem applyArm_inRp (arm : Bool) (b : Block) :
    (applyArm arm b).inRp = b.inRp := rfl
@[simp] theorem applyArm_owner (arm : Bool) (b : Block) :
    (applyArm arm b).owner = b.owner := rfl
@[simp] theorem applyArm_pinDrv (arm : Bool) (b : Block) :
    (applyArm arm b).pinDrv = b.pinDrv := rfl
@[simp] theorem applyArm_driveEn (arm : Bool) (b : Block) :
    (applyArm arm b).driveEn = b.driveEn := rfl
@[simp] theorem applyArm_modeSet (arm : Bool) (b : Block) :
    (applyArm arm b).modeSet = b.modeSet := rfl
@[simp] theorem applyArm_progOe (arm : Bool) (b : Block) :
    (applyArm arm b).progOe = b.progOe := rfl
@[simp] theorem applyArm_progLvl (arm : Bool) (b : Block) :
    (applyArm arm b).progLvl = b.progLvl := rfl
@[simp] theorem applyArm_fpgaState (arm : Bool) (b : Block) :
    (applyArm arm b).fpgaState = b.fpgaState := rfl
@[simp] theorem applyArm_cfgTimeout (arm : Bool) (b : Block) :
    (applyArm arm b).cfgTimeout = b.cfgTimeout := rfl
@[simp] theorem applyArm_timer (arm : Bool) (b : Block) :
    (applyArm arm b).timer = b.timer := rfl
@[simp] theorem applyArm_pollCnt (arm : Bool) (b : Block) :
    (applyArm arm b).pollCnt = b.pollCnt := rfl
@[simp] theorem applyArm_doneLatch (arm : Bool) (b : Block) :
    (applyArm arm b).doneLatch = b.doneLatch := rfl
@[simp] theorem applyArm_armed (arm : Bool) (b : Block) :
    (applyArm arm b).armed = (arm || b.armed) := rfl
@[simp] theorem applyArm_donePrev (arm : Bool) (b : Block) :
    (applyArm arm b).donePrev = b.donePrev := rfl

/-! ### `takeMonitorEvent` -/

@[simp] theorem takeMonitorEvent_seq (seen : Block) (doneIn clr : Bool) (b : Block) :
    (takeMonitorEvent seen doneIn clr b).seq = b.seq := rfl
@[simp] theorem takeMonitorEvent_inRp (seen : Block) (doneIn clr : Bool) (b : Block) :
    (takeMonitorEvent seen doneIn clr b).inRp = b.inRp := rfl
@[simp] theorem takeMonitorEvent_owner (seen : Block) (doneIn clr : Bool) (b : Block) :
    (takeMonitorEvent seen doneIn clr b).owner = b.owner := rfl
@[simp] theorem takeMonitorEvent_pinDrv (seen : Block) (doneIn clr : Bool) (b : Block) :
    (takeMonitorEvent seen doneIn clr b).pinDrv = b.pinDrv := rfl
@[simp] theorem takeMonitorEvent_driveEn (seen : Block) (doneIn clr : Bool) (b : Block) :
    (takeMonitorEvent seen doneIn clr b).driveEn = b.driveEn := rfl
@[simp] theorem takeMonitorEvent_modeSet (seen : Block) (doneIn clr : Bool) (b : Block) :
    (takeMonitorEvent seen doneIn clr b).modeSet = b.modeSet := rfl
@[simp] theorem takeMonitorEvent_progOe (seen : Block) (doneIn clr : Bool) (b : Block) :
    (takeMonitorEvent seen doneIn clr b).progOe = b.progOe := rfl
@[simp] theorem takeMonitorEvent_progLvl (seen : Block) (doneIn clr : Bool) (b : Block) :
    (takeMonitorEvent seen doneIn clr b).progLvl = b.progLvl := rfl
@[simp] theorem takeMonitorEvent_fpgaState (seen : Block) (doneIn clr : Bool) (b : Block) :
    (takeMonitorEvent seen doneIn clr b).fpgaState = b.fpgaState := rfl
@[simp] theorem takeMonitorEvent_cfgTimeout (seen : Block) (doneIn clr : Bool) (b : Block) :
    (takeMonitorEvent seen doneIn clr b).cfgTimeout = b.cfgTimeout := rfl
@[simp] theorem takeMonitorEvent_timer (seen : Block) (doneIn clr : Bool) (b : Block) :
    (takeMonitorEvent seen doneIn clr b).timer = b.timer := rfl
@[simp] theorem takeMonitorEvent_pollCnt (seen : Block) (doneIn clr : Bool) (b : Block) :
    (takeMonitorEvent seen doneIn clr b).pollCnt = b.pollCnt := rfl
@[simp] theorem takeMonitorEvent_doneLatch (seen : Block) (doneIn clr : Bool) (b : Block) :
    (takeMonitorEvent seen doneIn clr b).doneLatch = mergeLatch (fallingEdge seen doneIn) clr seen.doneLatch := rfl
@[simp] theorem takeMonitorEvent_armed (seen : Block) (doneIn clr : Bool) (b : Block) :
    (takeMonitorEvent seen doneIn clr b).armed = b.armed := rfl
@[simp] theorem takeMonitorEvent_donePrev (seen : Block) (doneIn clr : Bool) (b : Block) :
    (takeMonitorEvent seen doneIn clr b).donePrev = doneIn := rfl

/-! ### `runTick` -/

@[simp] theorem runTick_blk (s : State) (r : Request) : (runTick s r).blk = nextBlock s.params s.blk s.ports.doneIn r := rfl
@[simp] theorem runTick_params (s : State) (r : Request) : (runTick s r).params = s.params := rfl
@[simp] theorem runTick_ports (s : State) (r : Request) : (runTick s r).ports = s.ports := rfl
@[simp] theorem runTick_trace (s : State) (r : Request) : (runTick s r).trace = s.trace := rfl
@[simp] theorem runTick_tick (s : State) (r : Request) : (runTick s r).tick = s.tick := rfl
@[simp] theorem runTick_out (s : State) (r : Request) : (runTick s r).out = tickOutputs s.blk s.ports.doneIn r := rfl

/-! ### `quietTick` -/

@[simp] theorem quietTick_blk (s : State) : (quietTick s).blk = nextBlock s.params s.blk s.ports.doneIn Request.quiet := rfl
@[simp] theorem quietTick_params (s : State) : (quietTick s).params = s.params := rfl
@[simp] theorem quietTick_ports (s : State) : (quietTick s).ports = s.ports := rfl
@[simp] theorem quietTick_trace (s : State) : (quietTick s).trace = s.trace := rfl
@[simp] theorem quietTick_tick (s : State) : (quietTick s).tick = s.tick := rfl
@[simp] theorem quietTick_out (s : State) : (quietTick s).out = tickOutputs s.blk s.ports.doneIn Request.quiet := rfl

/-! ### `resetTick` -/

@[simp] theorem resetTick_blk (s : State) : (resetTick s).blk = Block.reset := rfl
@[simp] theorem resetTick_params (s : State) : (resetTick s).params = s.params := rfl
@[simp] theorem resetTick_ports (s : State) : (resetTick s).ports = s.ports := rfl
@[simp] theorem resetTick_trace (s : State) : (resetTick s).trace = s.trace := rfl
@[simp] theorem resetTick_tick (s : State) : (resetTick s).tick = s.tick := rfl
@[simp] theorem resetTick_out (s : State) : (resetTick s).out = Outputs.silent := rfl

/-! ### `advance` -/

@[simp] theorem advance_blk (s : State) : (advance s).blk = s.blk := rfl
@[simp] theorem advance_params (s : State) : (advance s).params = s.params := rfl
@[simp] theorem advance_ports (s : State) : (advance s).ports = s.inputAt 1 := rfl
@[simp] theorem advance_trace (s : State) : (advance s).trace = s.trace.tail := rfl
@[simp] theorem advance_tick (s : State) : (advance s).tick = s.tick + 1 := rfl
@[simp] theorem advance_out (s : State) : (advance s).out = s.out := rfl

/-! ### `presentWord` -/

@[simp] theorem presentWord_blk (c : Cmd) (s : State) : (presentWord c s).blk = s.blk := rfl
@[simp] theorem presentWord_params (c : Cmd) (s : State) : (presentWord c s).params = s.params := rfl
@[simp] theorem presentWord_ports (c : Cmd) (s : State) : (presentWord c s).ports = { s.ports with rst := false, cmdValid := true, cmd := c } := rfl
@[simp] theorem presentWord_trace (c : Cmd) (s : State) : (presentWord c s).trace = s.trace := rfl
@[simp] theorem presentWord_tick (c : Cmd) (s : State) : (presentWord c s).tick = s.tick := rfl
@[simp] theorem presentWord_out (c : Cmd) (s : State) : (presentWord c s).out = s.out := rfl

@[simp] theorem withFetchWord_ports (s : State) (nbits w : Nat) : (s.withFetchWord nbits w).ports =
    { s.ports with rst := false, cmdValid := true, cmd := BitVec.ofNat 4 (w % 2 ^ nbits) } := rfl

@[simp] theorem withFetchWord_blk (s : State) (nbits w : Nat) : (s.withFetchWord nbits w).blk = s.blk := rfl

end Sys2Proof.Machine
end

