-- ==== Sys2Proof/Laws/Ops.lean ====
section
/-! SUPPORT. For each shared operation, one lemma that says once what it can do. -/

namespace Sys2Proof.Machine

/-! ### Samples and flags -/

theorem doneSample_eq_true (p : Params) (l : Bool) : doneSample p l = true ↔ l = p.doneTrueLevel := by
  simp [doneSample]

theorem fallingEdge_eq_true (b : Block) (l : Bool) :
    fallingEdge b l = true ↔ b.armed = true ∧ b.donePrev = true ∧ l = false := by
  simp [fallingEdge, and_assoc]

@[simp] theorem fallingEdge_high (b : Block) : fallingEdge b true = false := by simp [fallingEdge]

theorem busy_eq_true (b : Block) : busy b = true ↔ b.seq ≠ .idle := by simp [busy]

@[simp] theorem mergeLatch_edge (clr latch : Bool) : mergeLatch true clr latch = true := rfl
@[simp] theorem mergeLatch_clear (latch : Bool) : mergeLatch false true latch = false := rfl
@[simp] theorem mergeLatch_keep (latch : Bool) : mergeLatch false false latch = latch := rfl

theorem zextBit_eq (v : Bool) : zextBit v = if v = true then 0x0001#16 else 0x0000#16 := by
  cases v <;> rfl

theorem seqOfCode_seqCode (x : Seq) : seqOfCode (seqCode x) = x := by cases x <;> rfl

/-- The fields of the STATUS word, by bit number (R37). -/
theorem statusWord_field (b : Block) (d : Bool) :
    (statusWord b d).getLsbD 0 = ownerBit b.owner ∧ (statusWord b d).getLsbD 1 = b.driveEn ∧
    (statusWord b d).getLsbD 6 = b.modeSet ∧ (statusWord b d).getLsbD 7 = b.progOe ∧
    (statusWord b d).getLsbD 8 = b.progLvl ∧ (statusWord b d).getLsbD 11 = d ∧
    (statusWord b d).getLsbD 12 = b.doneLatch ∧ (statusWord b d).getLsbD 13 = b.armed ∧
    (statusWord b d).getLsbD 14 = busy b ∧ (statusWord b d).getLsbD 15 = b.cfgTimeout := by
  simp only [statusWord, BitVec.getLsbD_append, BitVec.getLsbD_ofBool]
  simp

/-! ### The micro-steps -/

/-- A wait state's tick: one less, or the end of the wait (R31, R165). -/
theorem waitTick_spec (after : Seq) (b : Block) :
    (1 < b.timer → waitTick after b = { b with timer := b.timer - 1 }) ∧
    (b.timer ≤ 1 → waitTick after b = { b with timer := 0, seq := after }) := by
  constructor <;> intro h <;> simp [waitTick] <;> omega

/-- A failed sample of the poll (R128). -/
theorem pollFailed_spec (p : Params) (b : Block) :
    (p.timeoutTicks = none → pollFailed p b = b) ∧
    (∀ n, p.timeoutTicks = some n → n ≤ b.pollCnt + 1 →
      pollFailed p b = endRstProg { b with cfgTimeout := true }) ∧
    (∀ n, p.timeoutTicks = some n → b.pollCnt + 1 < n →
      pollFailed p b = { b with pollCnt := b.pollCnt + 1 }) := by
  refine ⟨fun h => by simp [pollFailed, h], fun n h hn => ?_, fun n h hn => ?_⟩
  · simp [pollFailed, h, hn]
  · simp [pollFailed, h, Nat.not_le.mpr hn]

/-- No micro-step and no acceptance writes the monitor's side (R68, R150). -/
theorem microStep_monitor_side (p : Params) (d : Bool) (start : Option Operation) (b : Block) :
    (microStep p d start b).doneLatch = b.doneLatch ∧ (microStep p d start b).armed = b.armed ∧
    (microStep p d start b).donePrev = b.donePrev := by
  have wait (after : Seq) : (waitTick after b).doneLatch = b.doneLatch ∧ (waitTick after b).armed = b.armed ∧
      (waitTick after b).donePrev = b.donePrev := by
    unfold waitTick; split <;> exact ⟨rfl, rfl, rfl⟩
  have poll : (pollFailed p b).doneLatch = b.doneLatch ∧ (pollFailed p b).armed = b.armed ∧
      (pollFailed p b).donePrev = b.donePrev := by
    unfold pollFailed; split
    · exact ⟨rfl, rfl, rfl⟩
    · split <;> exact ⟨rfl, rfl, rfl⟩
  unfold microStep
  split
  case h_1 => unfold startOperation; split <;> exact ⟨rfl, rfl, rfl⟩
  case h_4 => exact wait _
  case h_6 => exact wait _
  case h_10 => exact wait _
  case h_12 =>
    unfold microSqPoll; split
    · exact ⟨rfl, rfl, rfl⟩
    · exact poll
  all_goals exact ⟨rfl, rfl, rfl⟩

/-! ### The tick -/

/-- The twelve fields of the arbiter and the sequencer come from the micro-step, the other three from the monitor, the
clear request and the arm request (R68, R170). -/
theorem nextBlock_eq (p : Params) (b : Block) (l : Bool) (r : Request) :
    nextBlock p b l r = { microStep p (doneSample p l) r.start b with
      armed := r.arm || b.armed
      donePrev := l
      doneLatch := mergeLatch (fallingEdge b l) r.clr b.doneLatch } := by
  simp [nextBlock, takeMonitorEvent, applyArm, (microStep_monitor_side p (doneSample p l) r.start b).2.1]

/-- A blocking command's request: accepted or rejected (R164). -/
theorem blocking_spec (b : Block) (op : Operation) :
    (b.seq = .idle → Request.blocking b op = { Request.respond rspOk 0#16 with start := some op }) ∧
    (b.seq ≠ .idle → Request.blocking b op = Request.respond rspRejected 0#16) := by
  constructor <;> intro h <;> simp [Request.blocking, h]

/-- `progPin` shows `Z` exactly where the block does not drive the line (R40). -/
theorem progPin_spec (b : Block) :
    (b.progOe = true → progPin b = some b.progLvl) ∧ (b.progOe = false → progPin b = none) := by
  constructor <;> intro h <;> simp [progPin, h]

end Sys2Proof.Machine
end

