-- ==== Sys2Proof/Laws/Step.lean ====
section
/-! SUPPORT. What a step does, said once: a reset, or one tick with the request of the port; and the runs made of it. -/

namespace Sys2Proof.Machine

/-- The request that phase 3 makes for a command (R170). -/
def requestOf (s : State) : Instr → Request
  | .nop => Request.respond rspOk 0#16
  | .relFpga => Request.blocking s.blk .relFpga
  | .relMcu => Request.blocking s.blk .relMcu
  | .rstProg => Request.blocking s.blk .rstProg
  | .isProg => Request.respond rspOk (zextBit (doneSample s.params s.ports.doneIn))
  | .arm => { Request.respond rspOk 0#16 with arm := true }
  | .rdLatch => Request.respond rspOk (zextBit s.blk.doneLatch)
  | .clrLatch => { Request.respond rspOk 0#16 with clr := true }
  | .takeLatch => { Request.respond rspOk (zextBit s.blk.doneLatch) with clr := true }
  | .status => Request.respond rspOk (statusWord s.blk (doneSample s.params s.ports.doneIn))
  | .reservedA => Request.illegal
  | .reservedB => Request.illegal
  | .reservedC => Request.illegal
  | .reservedD => Request.illegal
  | .reservedE => Request.illegal
  | .reservedF => Request.illegal

/-- Every meaning is the tick with its request. -/
theorem exec_eq_runTick (i : Instr) (s : State) : exec i s = .next (runTick s (requestOf s i)) := by
  cases i <;> rfl

/-- The request of the tick about to be performed (R162, R170). -/
def portRequest (s : State) : Request :=
  if s.ports.cmdValid then requestOf s (decodeCmd s.ports.cmd) else Request.quiet

/-- A step with `rst == 1` (R200). -/
theorem step_reset (s : State) (h : s.ports.rst = true) : step s = .next (advance (resetTick s)) := by
  simp [step, fetch, h]

/-- A step with `rst == 0` (R170). -/
theorem step_run (s : State) (h : s.ports.rst = false) :
    step s = .next (advance (runTick s (portRequest s))) := by
  cases hv : s.ports.cmdValid
  · simp [step, fetch, h, hv, portRequest, quietTick]
  · simp [step, fetch, h, hv, portRequest, exec_eq_runTick]

/-- Everything a step can answer. -/
theorem step_cases (s t : State) (h : step s = .next t) :
    (s.ports.rst = true ∧ t = advance (resetTick s)) ∨
    (s.ports.rst = false ∧ t = advance (runTick s (portRequest s))) := by
  cases hr : s.ports.rst
  · rw [step_run s hr] at h; cases h; exact .inr ⟨rfl, rfl⟩
  · rw [step_reset s hr] at h; cases h; exact .inl ⟨rfl, rfl⟩

/-! ### What the port's request asks -/

theorem requestOf_arm (s : State) (i : Instr) : (requestOf s i).arm = decide (i = .arm) := by
  have hb (op : Operation) : (Request.blocking s.blk op).arm = false := by
    unfold Request.blocking; split <;> rfl
  cases i <;> simp [requestOf, hb, Request.respond, Request.quiet, Request.illegal]

theorem requestOf_clr (s : State) (i : Instr) :
    (requestOf s i).clr = (decide (i = .clrLatch) || decide (i = .takeLatch)) := by
  have hb (op : Operation) : (Request.blocking s.blk op).clr = false := by
    unfold Request.blocking; split <;> rfl
  cases i <;> simp [requestOf, hb, Request.respond, Request.quiet, Request.illegal]

/-- The operation a command asks to start (R83). -/
def operationOf : Instr → Option Operation
  | .relFpga => some .relFpga
  | .relMcu => some .relMcu
  | .rstProg => some .rstProg
  | .nop => none
  | .isProg => none
  | .arm => none
  | .rdLatch => none
  | .clrLatch => none
  | .takeLatch => none
  | .status => none
  | .reservedA => none
  | .reservedB => none
  | .reservedC => none
  | .reservedD => none
  | .reservedE => none
  | .reservedF => none

theorem requestOf_start_idle (s : State) (i : Instr) (h : s.blk.seq = .idle) :
    (requestOf s i).start = operationOf i := by
  cases i <;> simp [requestOf, operationOf, Request.blocking, h, Request.respond, Request.quiet, Request.illegal]

theorem portRequest_arm (s : State) (h : s.ports.rst = false) :
    (portRequest s).arm = presents s.ports .arm := by
  cases hv : s.ports.cmdValid <;> simp [portRequest, presents, h, hv, requestOf_arm, Request.quiet]

theorem portRequest_clr (s : State) (h : s.ports.rst = false) :
    (portRequest s).clr = (presents s.ports .clrLatch || presents s.ports .takeLatch) := by
  cases hv : s.ports.cmdValid <;> simp [portRequest, presents, h, hv, requestOf_clr, Request.quiet]

theorem portRequest_start_idle (s : State) (h : s.blk.seq = .idle) :
    (portRequest s).start = if s.ports.cmdValid then operationOf (decodeCmd s.ports.cmd) else none := by
  cases hv : s.ports.cmdValid
  · simp [portRequest, hv, Request.quiet]
  · simp [portRequest, hv, requestOf_start_idle s _ h]

/-- A busy block's micro-step does not look at the start request (R164, R167). -/
theorem microStep_busy (p : Params) (d : Bool) (a c : Option Operation) (b : Block) (h : b.seq ≠ .idle) :
    microStep p d a b = microStep p d c b := by
  unfold microStep; split
  · exact absurd (by assumption) h
  all_goals rfl

/-! ### The twelve fields of the arbiter and the sequencer -/

/-- A tick gives those fields what the micro-step gives them (R68, R150). -/
theorem nextBlock_sequencing (p : Params) (b : Block) (l : Bool) (r : Request) :
    (nextBlock p b l r).sequencing = (microStep p (doneSample p l) r.start b).sequencing := by
  rw [nextBlock_eq]; rfl

theorem waitTick_sequencing (after : Seq) (b : Block) : waitTick after b.sequencing = (waitTick after b).sequencing := by
  by_cases h : 1 < b.timer
  · have h' : 1 < b.sequencing.timer := h
    rw [(waitTick_spec after b).1 h, (waitTick_spec after b.sequencing).1 h']; rfl
  · have h' : ¬ 1 < b.sequencing.timer := h
    rw [(waitTick_spec after b).2 (by omega), (waitTick_spec after b.sequencing).2 (by omega)]; rfl

theorem pollFailed_sequencing (p : Params) (b : Block) : pollFailed p b.sequencing = (pollFailed p b).sequencing := by
  cases ht : p.timeoutTicks with
  | none => rw [(pollFailed_spec p b).1 ht, (pollFailed_spec p b.sequencing).1 ht]
  | some n =>
    by_cases h : n ≤ b.pollCnt + 1
    · have h' : n ≤ b.sequencing.pollCnt + 1 := h
      rw [(pollFailed_spec p b).2.1 n ht h, (pollFailed_spec p b.sequencing).2.1 n ht h']; rfl
    · have h' : ¬ n ≤ b.sequencing.pollCnt + 1 := h
      rw [(pollFailed_spec p b).2.2 n ht (by omega), (pollFailed_spec p b.sequencing).2.2 n ht (by omega)]; rfl

/-- The micro-step reads and writes those fields only (R150). -/
theorem microStep_sequencing (p : Params) (d : Bool) (start : Option Operation) (b : Block) :
    microStep p d start b.sequencing = (microStep p d start b).sequencing := by
  have hq : b.sequencing.seq = b.seq := rfl
  have hi : b.sequencing.inRp = b.inRp := rfl
  unfold microStep
  rw [hq]
  split
  case h_1 => unfold startOperation; split <;> rfl
  case h_4 => unfold microRfSettle; rw [hi]; exact waitTick_sequencing _ b
  case h_6 => exact waitTick_sequencing _ b
  case h_10 => exact waitTick_sequencing _ b
  case h_12 =>
    unfold microSqPoll
    split
    · rfl
    · exact pollFailed_sequencing p b
  all_goals rfl

/-! ### Runs -/

/-- The inputs move up by one tick. -/
theorem inputAt_advance (s : State) (k : Nat) : (advance s).inputAt k = s.inputAt (k + 1) := by
  cases k with
  | zero => rfl
  | succ k =>
    simp only [State.inputAt, advance, List.getElem?_tail]
    congr 2; omega

/-- A tick leaves the inputs to come alone. -/
@[simp] theorem inputAt_runTick (s : State) (r : Request) (k : Nat) : (runTick s r).inputAt k = s.inputAt k := by
  cases k <;> rfl

@[simp] theorem inputAt_resetTick (s : State) (k : Nat) : (resetTick s).inputAt k = s.inputAt k := by
  cases k <;> rfl

@[simp] theorem inputAt_zero (s : State) : s.inputAt 0 = s.ports := rfl

@[simp] theorem ticks_zero (s : State) : ticks 0 s = .next s := rfl

/-- One tick, then the rest. -/
theorem ticks_succ (n : Nat) {s t : State} (h : step s = .next t) : ticks (n + 1) s = ticks n t := by
  simp [ticks, h]

/-- A run is a shorter run and then the rest. -/
theorem ticks_add (m n : Nat) {s t : State} (h : ticks m s = .next t) : ticks (m + n) s = ticks n t := by
  induction m generalizing s with
  | zero => simp only [ticks_zero, Host.Outcome.next.injEq] at h; simp [h]
  | succ m ih =>
    rw [Nat.add_right_comm]
    cases hs : step s with
    | next u => rw [ticks_succ _ hs] at h ⊢; exact ih h
    | fault r => simp [ticks, hs] at h
    | refused r => simp [ticks, hs] at h

/-- `NoReset` after the first tick. -/
theorem NoReset_tail {s : State} {n : Nat} (h : NoReset s (n + 1)) (r : Request) :
    NoReset (advance (runTick s r)) n := by
  intro k hk
  rw [inputAt_advance, inputAt_runTick]
  exact h (k + 1) (by omega)

end Sys2Proof.Machine
end

