-- ==== Sys2Proof/Machine/HostProgram.lean ====
section
/-! DEFINITION. The host-program notation and its pseudo-instructions (R88, R89), as a host that drives the command port
tick by tick, with the marks `rst=1` and `done_in` beside it. It stands beside the block: `step` does not use it (log
12). -/

namespace Sys2Proof.Machine

/-- A line of a host program (R88, R89). -/
inductive HostLine where
  /-- `<mnemonic> xN`: the same command in `n` ticks, given by its word so that a reserved one can be written. -/
  | present (c : Cmd) (n : Nat)
  /-- `- xN`, also `WAIT n`: `n` ticks without a command. -/
  | pause (n : Nat)
  /-- `WAIT_IDLE`: ticks without a command until a tick whose pre-state is idle, which is the next line's first. -/
  | waitIdle
  /-- `POLL_STATUS`: `STATUS` in every tick until the response shows `BUSY == 0`. -/
  | pollStatus
  deriving DecidableEq, Repr

/-- The 5-bit encoding of a line's tick, `cmd_valid` then `cmd`; a `-` tick is written with `cmd` 0 (R88). -/
def encodeSlot : Option Cmd → BitVec 5
  | none => 0b00000#5
  | some c => 0b1#1 ++ c

/-- What is written beside a line's tick (R88): neither is the host's, so a pseudo-instruction carries one for each of its
ticks. -/
structure Beside where
  /-- `rst=1`, the mark of a reset tick. -/
  rst : Bool
  /-- `done_in=<0|1>` -/
  doneIn : Bool
  deriving DecidableEq, Repr

/-- What the host presents in a tick that is marked `rst=1` or not and whose pre-state is busy or idle, and the lines left
to it (R88, R89). A reset tick takes its line like any other; its `STATUS` is not answered (R200), so `POLL_STATUS` goes on
(log 12). -/
def hostSlot (rst isBusy : Bool) : List HostLine → Option Cmd × List HostLine
  | [] => (none, [])
  | .present _ 0 :: rest => hostSlot rst isBusy rest
  | .present c (n + 1) :: rest => (some c, .present c n :: rest)
  | .pause 0 :: rest => hostSlot rst isBusy rest
  | .pause (n + 1) :: rest => (none, .pause n :: rest)
  | .waitIdle :: rest => if isBusy then (none, .waitIdle :: rest) else hostSlot rst isBusy rest
  | .pollStatus :: rest => (some (encode .status), if isBusy || rst then .pollStatus :: rest else rest)

/-- `BOOT` (R89, R210). -/
def bootProgram (p : Params) : List HostLine :=
  [.present (encode .arm) 1, .pause p.startupTicks, .present (encode .rstProg) 1, .waitIdle]

/-- `BOOT_TO_MCU` (R89, R210). -/
def bootToMcuProgram (p : Params) : List HostLine :=
  bootProgram p ++ [.present (encode .relMcu) 1, .waitIdle]

/-- The port levels of a tick in which the host presents `slot`, with what is written beside it (R88). -/
def slotInputs (slot : Option Cmd) (m : Beside) : Inputs where
  rst := m.rst
  cmdValid := slot.isSome
  cmd := slot.getD 0#4
  doneIn := m.doneIn

/-- What the host presents next, and the lines left to it. -/
def hostNext (prog : List HostLine) (s : State) (m : Beside) : Option Cmd × List HostLine :=
  hostSlot m.rst (busy s.blk) prog

/-- `s` with the next tick of the host's program on its ports. -/
def hostPorts (prog : List HostLine) (s : State) (m : Beside) : State :=
  { s with ports := slotInputs (hostNext prog s m).1 m }

/-- A run of the host's program, one tick for each entry written beside it (R88, R89, R172). -/
def hostRun (prog : List HostLine) (s : State) : List Beside → Host.Outcome State Fault Refusal
  | [] => .next s
  | m :: rest =>
    match step (hostPorts prog s m) with
    | .next t => hostRun (hostNext prog s m).2 t rest
    | .fault r => .fault r
    | .refused r => .refused r

end Sys2Proof.Machine
end

