-- ==== Sys2Proof/Laws/HostProgram.lean ====
section
/-! SUPPORT. What a host program's tick does: its port levels, and the run it makes of the block. -/

namespace Sys2Proof.Machine

@[simp] theorem slotInputs_rst (slot : Option Cmd) (m : Beside) : (slotInputs slot m).rst = m.rst := rfl
@[simp] theorem slotInputs_cmdValid (slot : Option Cmd) (m : Beside) : (slotInputs slot m).cmdValid = slot.isSome := rfl
@[simp] theorem slotInputs_cmd (slot : Option Cmd) (m : Beside) : (slotInputs slot m).cmd = slot.getD 0#4 := rfl
@[simp] theorem slotInputs_doneIn (slot : Option Cmd) (m : Beside) : (slotInputs slot m).doneIn = m.doneIn := rfl
@[simp] theorem hostPorts_blk (prog : List HostLine) (s : State) (m : Beside) : (hostPorts prog s m).blk = s.blk := rfl
@[simp] theorem hostPorts_ports (prog : List HostLine) (s : State) (m : Beside) :
    (hostPorts prog s m).ports = slotInputs (hostNext prog s m).1 m := rfl
@[simp] theorem hostPorts_params (prog : List HostLine) (s : State) (m : Beside) :
    (hostPorts prog s m).params = s.params := rfl

/-- The levels on `cmd_valid` and `cmd` are the line's 5-bit encoding (R88). -/
theorem slotInputs_encode (slot : Option Cmd) (m : Beside) :
    BitVec.ofBool (slotInputs slot m).cmdValid ++ (slotInputs slot m).cmd = encodeSlot slot := by
  cases slot with
  | none => exact show BitVec.ofBool false ++ 0#4 = 0b00000#5 by decide
  | some c => rfl

/-- One tick of a host program, then the rest of it. -/
theorem hostRun_cons (prog : List HostLine) (s : State) (m : Beside) (rest : List Beside) {t : State}
    (h : step (hostPorts prog s m) = .next t) :
    hostRun prog s (m :: rest) = hostRun (hostNext prog s m).2 t rest := by
  simp [hostRun, h]

/-- A line marked `rst=1` resets the block, whatever its command slot holds; the program goes on at the next line (R88,
R200). -/
theorem hostRun_reset (prog : List HostLine) (s : State) (m : Beside) (rest : List Beside) (h : m.rst = true) :
    hostRun prog s (m :: rest) = hostRun (hostNext prog s m).2 (advance (resetTick (hostPorts prog s m))) rest :=
  hostRun_cons prog s m rest (step_reset _ (by simp [h]))

/-- A host program never stops the block. -/
theorem hostRun_next (prog : List HostLine) (s : State) (ms : List Beside) : ∃ t, hostRun prog s ms = .next t := by
  induction ms generalizing prog s with
  | nil => exact ⟨s, rfl⟩
  | cons m rest ih =>
    cases hr : m.rst with
    | true => rw [hostRun_reset prog s m rest hr]; exact ih _ _
    | false => rw [hostRun_cons prog s m rest (step_run _ (by simp [hr]))]; exact ih _ _

end Sys2Proof.Machine
end

