-- ==== Sys2Proof/Laws/PerInstr.lean ====
section
/-! SUPPORT. The per-instruction family: a command is well formed, and its class is what the place of its word in the
opcode map says (R82, R83, R86). -/

namespace Sys2Proof.Laws.ClassFollowsOpcode

/-- The opcode range and the class agree: 0xA to 0xF reserved, 0x1 to 0x3 blocking, the rest non-blocking. -/
def Statement (i : Instr) : Prop :=
  i.wf = true ∧ (classOf i = .reserved ↔ 10 ≤ (encode i).toNat) ∧
  (classOf i = .blocking ↔ 1 ≤ (encode i).toNat ∧ (encode i).toNat ≤ 3)

theorem nop : Statement .nop := by unfold Statement; decide
theorem relFpga : Statement .relFpga := by unfold Statement; decide
theorem relMcu : Statement .relMcu := by unfold Statement; decide
theorem rstProg : Statement .rstProg := by unfold Statement; decide
theorem isProg : Statement .isProg := by unfold Statement; decide
theorem arm : Statement .arm := by unfold Statement; decide
theorem rdLatch : Statement .rdLatch := by unfold Statement; decide
theorem clrLatch : Statement .clrLatch := by unfold Statement; decide
theorem takeLatch : Statement .takeLatch := by unfold Statement; decide
theorem status : Statement .status := by unfold Statement; decide
theorem reservedA : Statement .reservedA := by unfold Statement; decide
theorem reservedB : Statement .reservedB := by unfold Statement; decide
theorem reservedC : Statement .reservedC := by unfold Statement; decide
theorem reservedD : Statement .reservedD := by unfold Statement; decide
theorem reservedE : Statement .reservedE := by unfold Statement; decide
theorem reservedF : Statement .reservedF := by unfold Statement; decide

end Sys2Proof.Laws.ClassFollowsOpcode
end

