-- ==== Sys2Proof/Laws/Runs.lean ====
section
/-! SUPPORT. Runs of many ticks: where a run has got to, one tick of a running operation, and a whole wait. -/

namespace Sys2Proof.Machine

/-- What an admissible parameter record gives (R7 to R11). -/
theorem params_wf_spec {p : Params} (h : p.wf = true) :
    1 ≤ p.settleTicks ∧ 1 ≤ p.pulseTicks ∧ (∀ n, p.timeoutTicks = some n → 1 ≤ n) ∧
      p.maxCount < 2 ^ p.timerWidth ∧ 1 ≤ p.tickNs ∧ 50000 ≤ p.pulseTicks * p.tickNs := by
  simp only [Params.wf, Params.tickOk, Params.settleOk, Params.pulseOk, Params.modeSelOk, Params.timerWidthOk,
    Bool.and_eq_true, decide_eq_true_eq] at h
  obtain ⟨⟨⟨⟨⟨h1, h2⟩, h3⟩, h4⟩, -⟩, h6⟩ := h
  refine ⟨h2.1, h3.1, fun n hn => ?_, h6, h1, h3.2⟩
  rw [Params.timeoutOk, hn] at h4
  exact of_decide_eq_true h4

/-- Blocks that agree on the twelve fields agree on whatever reads those only. -/
theorem sameSequencing_field {α : Type} {a b : Block} (f : Block → α) (hf : ∀ c : Block, f c.sequencing = f c)
    (h : SameSequencing a b) : f a = f b := by
  rw [← hf a, ← hf b]; exact congrArg f h

/-- A micro-step keeps agreement on the twelve fields (R76). -/
theorem sameSequencing_microStep {a b : Block} (p : Params) (d : Bool) (start : Option Operation)
    (h : SameSequencing a b) : SameSequencing (microStep p d start a) (microStep p d start b) := by
  unfold SameSequencing at h ⊢
  rw [← microStep_sequencing, h, microStep_sequencing]

/-- One tick more. -/
theorem ticks_snoc {k : Nat} {s t u : State} (h : ticks k s = .next t) (h2 : step t = .next u) :
    ticks (k + 1) s = .next u := by
  rw [ticks_add k 1 h, ticks_succ 0 h2]; rfl

/-- After `k` ticks from `s` the block agrees with `b` on the twelve fields, and the inputs to come are those of `s`. -/
def Reached (s : State) (k : Nat) (b : Block) : Prop :=
  ∃ t, ticks k s = .next t ∧ t.params = s.params ∧ (∀ j, t.inputAt j = s.inputAt (k + j)) ∧ SameSequencing t.blk b

theorem reached_zero (s : State) : Reached s 0 s.blk :=
  ⟨s, rfl, rfl, fun j => by rw [Nat.zero_add], rfl⟩

/-- The acceptance tick (R164). -/
theorem reached_start {s : State} (i : Instr) (op : Operation) (ho : operationOf i = some op)
    (hi : s.blk.seq = .idle) (hp : presents s.ports i = true) : Reached s 1 (startOperation (some op) s.blk) := by
  simp only [presents, Bool.and_eq_true, Bool.not_eq_true', decide_eq_true_eq] at hp
  obtain ⟨⟨hr, hv⟩, hc⟩ := hp
  refine ⟨advance (runTick s (portRequest s)), ticks_succ 0 (step_run s hr), rfl, fun j => ?_, ?_⟩
  · rw [inputAt_advance, inputAt_runTick, Nat.add_comm 1 j]
  · show (nextBlock _ _ _ _).sequencing = _
    rw [nextBlock_sequencing]
    simp [microStep, hi, portRequest_start_idle, hv, hc, ho]

/-- One tick of a running operation: its micro-step, whatever the host presents (R163, R164, R167). -/
theorem reached_succ {s : State} {k : Nat} {b c : Block} (h : Reached s k b) (hr : (s.inputAt k).rst = false)
    (hb : b.seq ≠ .idle) (e : microStep s.params (doneAt s k) none b = c) : Reached s (k + 1) c := by
  obtain ⟨t, h1, h2, h3, h4⟩ := h
  have hp : t.ports = s.inputAt k := h3 0
  have hr' : t.ports.rst = false := by rw [hp]; exact hr
  refine ⟨advance (runTick t (portRequest t)), ticks_snoc h1 (step_run t hr'), h2, fun j => ?_, ?_⟩
  · rw [inputAt_advance, inputAt_runTick, h3, Nat.add_assoc, Nat.add_comm 1 j]
  · have hq : t.blk.seq = b.seq := sameSequencing_field Block.seq (fun _ => rfl) h4
    have hd : doneSample t.params t.ports.doneIn = doneAt s k := by rw [h2, hp]; rfl
    show (nextBlock _ _ _ _).sequencing = _
    rw [nextBlock_sequencing, hd, h2, microStep_busy _ _ _ none _ (by rw [hq]; exact hb), ← e]
    exact sameSequencing_microStep _ _ _ h4

/-- `j` ticks into a wait state (R165). -/
theorem reached_wait {s : State} {k : Nat} {b : Block} (after : Seq)
    (hm : ∀ p d c, c.seq = b.seq → c.inRp = b.inRp → microStep p d none c = waitTick after c)
    (hb : b.seq ≠ .idle) (h : Reached s k b) :
    ∀ j, j < b.timer → (∀ i, i < j → (s.inputAt (k + i)).rst = false) →
      Reached s (k + j) { b with timer := b.timer - j } := by
  intro j
  induction j with
  | zero => intro _ _; exact h
  | succ j ih =>
    intro hj hr
    refine reached_succ (ih (by omega) fun i hi => hr i (by omega)) (hr j (by omega)) hb ?_
    rw [hm _ _ { b with timer := b.timer - j } rfl rfl]
    have ht : 1 < b.timer - j := by omega
    simp only [waitTick, ht, if_true, Nat.sub_sub]

/-- The end of a wait, after exactly as many ticks as the timer was loaded with (R104, R108, R125). -/
theorem reached_wait_end {s : State} {k : Nat} {b : Block} (after : Seq)
    (hm : ∀ p d c, c.seq = b.seq → c.inRp = b.inRp → microStep p d none c = waitTick after c)
    (hb : b.seq ≠ .idle) (h : Reached s k b) (ht : 1 ≤ b.timer)
    (hr : ∀ i, i < b.timer → (s.inputAt (k + i)).rst = false) :
    Reached s (k + b.timer) { b with timer := 0, seq := after } := by
  rw [show k + b.timer = k + (b.timer - 1) + 1 by omega]
  refine reached_succ (reached_wait after hm hb h (b.timer - 1) (by omega) fun i hi => hr i (by omega))
    (hr _ (by omega)) hb ?_
  rw [hm _ _ { b with timer := b.timer - (b.timer - 1) } rfl rfl]
  have e : ¬ 1 < b.timer - (b.timer - 1) := by omega
  simp only [waitTick, e, if_false]

end Sys2Proof.Machine
end

