-- ==== Sys2Proof/Tests/Slice0.lean ====
section
/-! SUPPORT. Tests on fixed values, each expected result taken from a table or a rule of `spec/` (T<n> is a single-tick
vector of `95_test_vectors.md` section 2.1), and the witness of every statement with hypotheses. -/

namespace Sys2Proof.Tests

open Sys2Proof.Machine

/-! ### Well-formedness: one ill-formed record per check -/

theorem test_wf_accepts_tv_base : Params.tvBase.wf = true := by decide
theorem test_wf_accepts_tv_hard : Params.tvHard.wf = true := by decide
theorem test_wf_accepts_every_command : Instr.wf .reservedF = true := by decide
/-- R7: the clock period is positive. -/
theorem test_wf_refuses_zero_tick : { Params.tvBase with tickNs := 0 }.tickOk = false := by decide
/-- R8: 3 ticks of 333333 ns fall short of 1 ms. -/
theorem test_wf_refuses_short_settle : { Params.tvBase with tickNs := 333333 }.settleOk = false := by decide
/-- R8: at least one tick. -/
theorem test_wf_refuses_zero_settle : { Params.tvBase with settleTicks := 0 }.settleOk = false := by decide
/-- R9: 2 ticks of 24999 ns fall short of 50 µs. -/
theorem test_wf_refuses_short_pulse : { Params.tvBase with tickNs := 24999 }.pulseOk = false := by decide
/-- R10: a finite timeout is at least 1. -/
theorem test_wf_refuses_zero_timeout : { Params.tvBase with timeoutTicks := some 0 }.timeoutOk = false := by decide
/-- R11: `MODE_SEL_WIDTH` is at least 1. -/
theorem test_wf_refuses_no_mode_select :
    { Params.tvBase with modeSelWidth := 0, modeSelSpiValue := 0#0 }.modeSelOk = false := by decide
/-- R11: a timeout of 8 does not fit three bits. -/
theorem test_wf_refuses_narrow_timer :
    { Params.tvBase with timeoutTicks := some 8 }.timerWidthOk = false := by decide
/-- A failed check fails the whole. -/
theorem test_wf_needs_every_check :
    { Params.tvBase with tickNs := 0 }.wf = false ∧ { Params.tvBase with tickNs := 333333 }.wf = false ∧
    { Params.tvBase with pulseTicks := 0 }.wf = false ∧ { Params.tvBase with timeoutTicks := some 0 }.wf = false ∧
    { Params.tvBase with modeSelWidth := 0, modeSelSpiValue := 0#0 }.wf = false ∧
    { Params.tvBase with timeoutTicks := some 8 }.wf = false := by decide

/-! ### Decoding: the words of `30_encoding.md` R82, bit by bit -/

theorem test_decode_system :
    decodeTableWord 4 0b0000 = some .nop ∧ decodeTableWord 4 0b1001 = some .status := by decide
theorem test_decode_arbiter :
    decodeTableWord 4 0b0001 = some .relFpga ∧ decodeTableWord 4 0b0010 = some .relMcu := by decide
theorem test_decode_sequencer :
    decodeTableWord 4 0b0011 = some .rstProg ∧ decodeTableWord 4 0b0100 = some .isProg := by decide
theorem test_decode_monitor :
    decodeTableWord 4 0b0101 = some .arm ∧ decodeTableWord 4 0b0110 = some .rdLatch ∧
    decodeTableWord 4 0b0111 = some .clrLatch ∧ decodeTableWord 4 0b1000 = some .takeLatch := by decide
theorem test_decode_reserved :
    decodeTableWord 4 0b1010 = some .reservedA ∧ decodeTableWord 4 0b1011 = some .reservedB ∧
    decodeTableWord 4 0b1100 = some .reservedC ∧ decodeTableWord 4 0b1101 = some .reservedD ∧
    decodeTableWord 4 0b1110 = some .reservedE ∧ decodeTableWord 4 0b1111 = some .reservedF := by decide
/-- A whole byte: bits 7:4 zero, else refused by name. -/
theorem test_decode_byte :
    decodeTableWord 8 0x03 = some .rstProg ∧ decodeTableWord 8 0x13 = none ∧
    decodeBytes [0x09#8, 0x05#8] = .ok (.status, [0x05#8]) := by
  refine ⟨by decide, by decide, rfl⟩
theorem test_decode_bytes_refuses :
    decodeBytes [] = .error .noWord ∧ decodeBytes [0x10#8] = .error (.notFourBits 0x10#8) := ⟨rfl, rfl⟩
theorem test_encode_byte : encodeByte .takeLatch = 0x08#8 ∧ encodeByte .reservedF = 0x0F#8 := by decide
/-- R21: the nominal codes, and the codes that never occur. -/
theorem test_seq_codes :
    (∀ c : BitVec 4, c.toNat < 12 → seqCode (seqOfCode c) = c) ∧
    (∀ c : BitVec 4, 12 ≤ c.toNat → seqOfCode c = .idle) ∧ seqOfCode 11#4 = .sqPoll := by decide

/-! ### One tick each -/

/-- The port levels of a tick without reset: `cmd_valid`, `cmd`, `done_in`. -/
def port (v : Bool) (c : Cmd) (d : Bool) : Inputs where
  rst := false
  cmdValid := v
  cmd := c
  doneIn := d

/-- A tick without a command, done low. -/
def still : Inputs := port false 0#4 false

/-- The machine with this block, parameters and ports, and quiet inputs for the `n` ticks after. -/
def at_ (p : Params) (b : Block) (i : Inputs) (n : Nat) : State where
  blk := b
  params := p
  ports := i
  trace := List.replicate n still
  tick := 0
  out := Outputs.silent

/-- The block and the outputs after one tick. -/
def after (p : Params) (b : Block) (i : Inputs) : Option (Block × Outputs) :=
  match step (at_ p b i 1) with
  | .next t => some (t.blk, t.out)
  | .fault _ => none
  | .refused _ => none

/-- The outputs of a tick whose command is answered. -/
def answer (code : RspCode) (data : Data) (evt : Bool) : Outputs where
  rspValid := true
  rspCode := code
  rspData := data
  monEvt := evt

/-- The outputs of a tick without a response. -/
def unanswered (evt : Bool) : Outputs := { Outputs.silent with monEvt := evt }

/-- `TV_BASE` with `DONE_TRUE_LEVEL` 0. -/
def tvLow : Params := { Params.tvBase with doneTrueLevel := false }

/-- A block with the monitor armed. -/
def armedBlock : Block := { Block.reset with armed := true }

/-- An armed block that saw done high: a low sample is an edge. -/
def edgeBlock : Block := { armedBlock with donePrev := true }

/-- The FPGA drives the bus and is being configured. -/
def loadingBlock : Block :=
  { Block.reset with owner := .fpga, driveEn := true, modeSet := true, progOe := true, fpgaState := .loading }

/-- `resetAndProgram()` is polling. -/
def pollBlock : Block := { loadingBlock with seq := .sqPoll, inRp := true }

/-- `resetAndProgram()` holds the line low. -/
def lowBlock (n : Nat) : Block :=
  { pollBlock with seq := .sqLow, progLvl := false, fpgaState := .inReset, timer := n }

/-- The MCU has the bus and drives it. -/
def mcuBlock : Block := { Block.reset with pinDrv := 0b1111#4 }

/-- A release to the MCU that waits. -/
def rmWait (n : Nat) : Block := { Block.reset with seq := .rmSettle, timer := n }

/-- T1 -/
theorem test_nop : after .tvBase Block.reset (port true 0x0#4 false) =
    some (Block.reset, answer 0#2 0x0000#16 false) := by decide
/-- T2: the word on `cmd` is ignored. -/
theorem test_no_command : after .tvBase Block.reset (port false 0x3#4 false) =
    some (Block.reset, unanswered false) := by decide
/-- T3 -/
theorem test_is_prog_true : after .tvBase Block.reset (port true 0x4#4 true) =
    some ({ Block.reset with donePrev := true }, answer 0#2 0x0001#16 false) := by decide
/-- T5 -/
theorem test_is_prog_low_level : after tvLow Block.reset (port true 0x4#4 false) =
    some (Block.reset, answer 0#2 0x0001#16 false) := by decide
/-- T6 -/
theorem test_arm : after .tvBase Block.reset (port true 0x5#4 false) =
    some (armedBlock, answer 0#2 0x0000#16 false) := by decide
/-- T16: the edge of the `ARM` tick itself is lost. -/
theorem test_arm_loses_its_own_edge : after .tvBase { Block.reset with donePrev := true } (port true 0x5#4 false) =
    some (armedBlock, answer 0#2 0x0000#16 false) := by decide
/-- T8 -/
theorem test_rd_latch : after .tvBase { armedBlock with doneLatch := true } (port true 0x6#4 false) =
    some ({ armedBlock with doneLatch := true }, answer 0#2 0x0001#16 false) := by decide
/-- T9 -/
theorem test_clr_latch : after .tvBase { armedBlock with doneLatch := true } (port true 0x7#4 false) =
    some (armedBlock, answer 0#2 0x0000#16 false) := by decide
/-- T14: set wins over clear. -/
theorem test_clr_latch_with_edge : after .tvBase { edgeBlock with doneLatch := true } (port true 0x7#4 false) =
    some ({ armedBlock with doneLatch := true }, answer 0#2 0x0000#16 true) := by decide
/-- T11 -/
theorem test_take_latch : after .tvBase { armedBlock with doneLatch := true } (port true 0x8#4 false) =
    some (armedBlock, answer 0#2 0x0001#16 false) := by decide
/-- T12: the old value is answered, and the edge is kept. -/
theorem test_take_latch_with_edge : after .tvBase edgeBlock (port true 0x8#4 false) =
    some ({ armedBlock with doneLatch := true }, answer 0#2 0x0000#16 true) := by decide
/-- T19b -/
theorem test_status_after_reset : after .tvBase Block.reset (port true 0x9#4 true) =
    some ({ Block.reset with donePrev := true }, answer 0#2 0x0900#16 false) := by decide
/-- The word `0x68C3` of section 2.2 (VY4, tick 9): busy in `SQ_LOW`, armed, the line low, done still true. -/
theorem test_status_busy :
    after .tvBase { lowBlock 2 with armed := true, donePrev := true } (port true 0x9#4 true) =
    some ({ lowBlock 1 with armed := true, donePrev := true }, answer 0#2 0x68C3#16 false) := by decide
/-- T21a -/
theorem test_reserved_a : after .tvBase Block.reset (port true 0xA#4 false) =
    some (Block.reset, answer 2#2 0x0000#16 false) := by decide
/-- T21b -/
theorem test_reserved_f : after .tvBase pollBlock (port true 0xF#4 false) =
    some (pollBlock, answer 2#2 0x0000#16 false) := by decide
/-- R86 -/
theorem test_reserved_b_to_e : ∀ c ∈ [0xB#4, 0xC#4, 0xD#4, 0xE#4], after .tvBase Block.reset (port true c false) =
    some (Block.reset, answer 2#2 0x0000#16 false) := by decide
/-- T24 -/
theorem test_rel_fpga : after .tvBase mcuBlock (port true 0x1#4 false) =
    some ({ mcuBlock with seq := .rfHiz }, answer 0#2 0x0000#16 false) := by decide
/-- T22: rejected, and the wait goes on. -/
theorem test_rel_fpga_rejected : after .tvBase (rmWait 2) (port true 0x1#4 false) =
    some (rmWait 1, answer 1#2 0x0000#16 false) := by decide
/-- T25 -/
theorem test_rel_mcu :
    after .tvBase { Block.reset with owner := .fpga, driveEn := true } (port true 0x2#4 false) =
    some ({ Block.reset with owner := .fpga, driveEn := true, seq := .rmDis }, answer 0#2 0x0000#16 false) := by
  decide
/-- P5, tick 13: a blocking command is rejected while the baseline polls. -/
theorem test_rel_mcu_rejected : after .tvBase pollBlock (port true 0x2#4 false) =
    some (pollBlock, answer 1#2 0x0000#16 false) := by decide
/-- T23: acceptance clears the sticky flag. -/
theorem test_rst_prog : after .tvHard { loadingBlock with cfgTimeout := true } (port true 0x3#4 false) =
    some ({ loadingBlock with seq := .sqMode, inRp := true }, answer 0#2 0x0000#16 false) := by decide
/-- T26: reset beats the command, and there is no response. -/
theorem test_reset_wins :
    after .tvBase { lowBlock 2 with doneLatch := true, armed := true, donePrev := true }
      { port true 0x9#4 false with rst := true } = some (Block.reset, Outputs.silent) := by decide
/-- T27: success and a monitor event in the same tick. -/
theorem test_poll_success_with_edge : after tvLow { pollBlock with armed := true, donePrev := true } still =
    some ({ loadingBlock with fpgaState := .programmed, armed := true, doneLatch := true }, unanswered true) := by
  decide
/-- T28a: success is tested before the timeout. -/
theorem test_poll_success_first : after .tvHard { pollBlock with pollCnt := 3 } (port false 0x0#4 true) =
    some ({ loadingBlock with fpgaState := .programmed, donePrev := true }, unanswered false) := by decide
/-- T28b, T28c: the last failed sample, and the one before it. -/
theorem test_poll_timeout :
    after .tvHard { pollBlock with pollCnt := 3 } still =
      some ({ loadingBlock with cfgTimeout := true }, unanswered false) ∧
    after .tvHard { pollBlock with pollCnt := 2 } still =
      some ({ pollBlock with pollCnt := 3 }, unanswered false) := by decide
/-- T28d: the baseline does not count. -/
theorem test_poll_baseline : after .tvBase pollBlock still = some (pollBlock, unanswered false) := by decide
/-- T29: a command while busy neither delays nor alters the micro-step. -/
theorem test_rf_en_beside_take_latch :
    after .tvBase { armedBlock with seq := .rfEn, doneLatch := true } (port true 0x8#4 false) =
    some ({ armedBlock with seq := .rfSettle, owner := .fpga, driveEn := true, timer := 3 },
      answer 0#2 0x0001#16 false) := by decide
/-- P3, tick 11. -/
theorem test_rm_pins : after .tvBase { Block.reset with seq := .rmPins } still =
    some (mcuBlock, unanswered false) := by decide
/-- P5, ticks 6 and 7: the line goes low from high impedance, with the pulse count. -/
theorem test_sq_out :
    after .tvBase { Block.reset with seq := .sqOut, inRp := true, owner := .fpga, driveEn := true, modeSet := true }
      still = some (lowBlock 2, unanswered false) := by decide
/-- P5, ticks 9 and 10: the line goes high and the poll begins. -/
theorem test_sq_high : after .tvBase { lowBlock 0 with seq := .sqHigh } still =
    some (pollBlock, unanswered false) := by decide
/-- R171: an undriven line is `Z`, a driven one has its level. -/
theorem test_pins :
    (pins .tvBase Block.reset).progPin = none ∧ (pins .tvBase (lowBlock 2)).progPin = some false ∧
    (pins .tvBase pollBlock).progPin = some true ∧ (pins .tvBase pollBlock).modeSelPin = some 1#2 ∧
    (pins .tvBase Block.reset).modeSelPin = none ∧ (pins .tvBase pollBlock).driveEnPin = true ∧
    (pins .tvBase pollBlock).busyPin = true ∧ (pins .tvBase pollBlock).indicator = some false :=
  ⟨rfl, rfl, rfl, rfl, rfl, rfl, rfl, rfl⟩

/-- R62: the `STATUS` word 0x2DC3 of a booted block on two bytes. -/
theorem test_data_bytes : dataBytes 0x2DC3#16 = [0xC3#8, 0x2D#8] := by decide

/-- The word placed for the next step is the command that step performs, as the first after reset. -/
theorem test_with_fetch_word :
    fetch (State.reset.withFetchWord 4 0x5) = .command .arm ∧
    fetch (State.reset.withFetchWord 4 0xC) = .command .reservedC := ⟨rfl, rfl⟩

/-! ### The host beside the block (R88, R89) -/

theorem test_encode_slot :
    encodeSlot none = 0b00000#5 ∧ encodeSlot (some 0x3#4) = 0b10011#5 ∧ encodeSlot (some 0xF#4) = 0b11111#5 := by
  decide
/-- R89: the expansion of `BOOT_TO_MCU` with `STARTUP_TICKS` 2. -/
theorem test_boot_to_mcu :
    bootToMcuProgram .tvBase =
      [.present 0x5#4 1, .pause 2, .present 0x3#4 1, .waitIdle, .present 0x2#4 1, .waitIdle] := by decide
/-- R89: `WAIT_IDLE` costs no tick once idle; `POLL_STATUS` ends with the first answer that is not busy. -/
theorem test_host_waits :
    hostSlot false true [.waitIdle, .present 0x2#4 1] = (none, [.waitIdle, .present 0x2#4 1]) ∧
    hostSlot false false [.waitIdle, .present 0x2#4 1] = (some 0x2#4, [.present 0x2#4 0]) ∧
    hostSlot false true [.pollStatus] = (some 0x9#4, [.pollStatus]) ∧
    hostSlot false false [.pollStatus] = (some 0x9#4, []) := by decide
/-- R200: a reset tick answers no `STATUS`, so it does not end `POLL_STATUS`. -/
theorem test_host_poll_over_reset : hostSlot true false [.pollStatus] = (some 0x9#4, [.pollStatus]) := by decide

/-- The block and the outputs after a short host program. -/
def afterHost (prog : List HostLine) (b : Block) (ms : List Beside) : Option (Block × Outputs) :=
  match hostRun prog (at_ .tvBase b still 0) ms with
  | .next t => some (t.blk, t.out)
  | .fault _ => none
  | .refused _ => none

/-- The block of VY4 before tick 10. -/
def vy4Block : Block := { lowBlock 1 with armed := true, donePrev := true }

/-- VY4, tick 10: `NOP rst=1` with a falling pair. -/
theorem test_host_reset_line : afterHost [.present 0x0#4 1, .present 0x9#4 1] vy4Block [⟨true, false⟩] =
    some (Block.reset, Outputs.silent) := by decide
/-- VY4, ticks 10 and 11: the line after the reset tick is performed. -/
theorem test_host_after_reset_line :
    afterHost [.present 0x0#4 1, .present 0x9#4 1] vy4Block [⟨true, false⟩, ⟨false, false⟩] =
    some (Block.reset, answer 0#2 0x0100#16 false) := by decide

/-! ### Witnesses: for each statement with hypotheses, a state and operands that meet all of them, and each clause of it
at the edge of its range -/

theorem witness_DecodeAndEncodeAgree : ∀ i ∈ [Instr.nop, .takeLatch, .reservedF], i.wf = true := by decide

theorem witness_StepRunsTheDecodedCommand : ∃ (s : State) (i : Instr),
    s.ports.rst = false ∧ s.ports.cmdValid = true ∧ decodeCmd s.ports.cmd = i ∧ ∃ t, exec i s = .next t :=
  ⟨at_ .tvBase mcuBlock (port true 0x1#4 false) 1, .relFpga, rfl, rfl, rfl, _, rfl⟩

/-- An idle block, whose last clause applies, and a busy one. -/
theorem witness_QuietTickPerformsNoCommand :
    (∃ s u, s.ports.rst = false ∧ s.ports.cmdValid = false ∧ exec .nop s = .next u ∧ s.blk.seq = .idle) ∧
    ∃ s u, s.ports.rst = false ∧ s.ports.cmdValid = false ∧ exec .nop s = .next u ∧ s.blk.seq ≠ .idle :=
  ⟨⟨at_ .tvBase edgeBlock (port false 0x3#4 false) 1, _, rfl, rfl, rfl, rfl⟩,
    ⟨at_ .tvBase (rmWait 1) (port false 0xF#4 true) 1, _, rfl, rfl, rfl, by decide⟩⟩

theorem witness_ResetTickGivesResetState : ∃ s : State, s.ports.rst = true ∧ s.blk.seq = .sqLow :=
  ⟨at_ .tvBase (lowBlock 2) { still with rst := true } 1, rfl, rfl⟩

theorem witness_StatusReportsEveryField : ∃ s : State,
    s.blk = Block.reset ∧ s.ports.doneIn ≠ s.params.doneTrueLevel :=
  ⟨at_ .tvBase Block.reset (port true 0x9#4 false) 1, rfl, by decide⟩

/-- Idle for the first half, busy in the last tick of an operation for the second. -/
theorem witness_BlockingAcceptedWhenIdleRejectedWhenBusy :
    (∃ s : State, s.blk.seq = .idle) ∧
    ∃ (s : State) (i : Instr), i ∈ [Instr.relFpga, Instr.relMcu, Instr.rstProg] ∧ s.blk.seq ≠ .idle :=
  ⟨⟨at_ .tvBase mcuBlock (port true 0x1#4 false) 1, rfl⟩,
    ⟨at_ .tvBase { Block.reset with seq := .rmPins } (port true 0x2#4 false) 1, .relMcu, by decide, by decide⟩⟩

theorem witness_ReservedCommandsAnswerIllegal : Instr.reservedA ∈
    [Instr.reservedA, Instr.reservedB, Instr.reservedC, Instr.reservedD, Instr.reservedE, Instr.reservedF] := by
  decide

/-- A rejected command, an illegal one, and one that is performed. -/
theorem witness_EveryCommandIsAnswered :
    (∃ s : State, s.ports.rst = false ∧ s.ports.cmdValid = true ∧
      classOf (decodeCmd s.ports.cmd) = .blocking ∧ s.blk.seq ≠ .idle) ∧
    (∃ s : State, s.ports.rst = false ∧ s.ports.cmdValid = true ∧ classOf (decodeCmd s.ports.cmd) = .reserved) ∧
    ∃ s : State, s.ports.rst = false ∧ s.ports.cmdValid = true ∧ classOf (decodeCmd s.ports.cmd) = .blocking ∧
      s.blk.seq = .idle :=
  ⟨⟨at_ .tvBase pollBlock (port true 0x3#4 false) 1, rfl, rfl, rfl, by decide⟩,
    ⟨at_ .tvBase pollBlock (port true 0xA#4 false) 1, rfl, rfl, rfl⟩,
    ⟨at_ .tvBase mcuBlock (port true 0x1#4 false) 1, rfl, rfl, rfl, rfl⟩⟩

theorem witness_NonBlockingNeverDisturbs : Instr.takeLatch ∈
    [Instr.nop, Instr.isProg, Instr.arm, Instr.rdLatch, Instr.clrLatch, Instr.takeLatch, Instr.status] := by decide

/-- An edge, and no edge beside a clear. -/
theorem witness_FallingEdgeSetsTheLatch :
    (∃ s : State, s.ports.rst = false ∧ s.blk.armed = true ∧ s.blk.donePrev = true ∧ s.ports.doneIn = false) ∧
    ∃ s : State, s.ports.rst = false ∧ s.blk.doneLatch = true ∧ presents s.ports .clrLatch = true ∧
      s.blk.armed = false :=
  ⟨⟨at_ .tvBase edgeBlock still 1, rfl, rfl, rfl, rfl⟩,
    ⟨at_ .tvBase { Block.reset with doneLatch := true } (port true 0x7#4 false) 1, rfl, rfl, by decide, rfl⟩⟩

theorem witness_RfHizFloatsThePins : ∃ s : State, s.ports.rst = false ∧ s.blk.seq = .rfHiz :=
  ⟨at_ .tvBase { mcuBlock with seq := .rfHiz } still 1, rfl, rfl⟩
theorem witness_RfEnAssertsDriveEnable : ∃ s : State, s.ports.rst = false ∧ s.blk.seq = .rfEn :=
  ⟨at_ .tvBase { Block.reset with seq := .rfEn } still 1, rfl, rfl⟩
theorem witness_RmDisDeassertsDriveEnable : ∃ s : State, s.ports.rst = false ∧ s.blk.seq = .rmDis :=
  ⟨at_ .tvBase { loadingBlock with seq := .rmDis } still 1, rfl, rfl⟩
theorem witness_RmPinsReturnsThePins : ∃ s : State, s.ports.rst = false ∧ s.blk.seq = .rmPins :=
  ⟨at_ .tvBase { Block.reset with seq := .rmPins } still 1, rfl, rfl⟩
theorem witness_SqModeDrivesModeSelect : ∃ s : State, s.ports.rst = false ∧ s.blk.seq = .sqMode :=
  ⟨at_ .tvBase { Block.reset with seq := .sqMode, inRp := true } still 1, rfl, rfl⟩
theorem witness_SqOutDrivesTheLineLow : ∃ s : State, s.ports.rst = false ∧ s.blk.seq = .sqOut :=
  ⟨at_ .tvBase { loadingBlock with seq := .sqOut, inRp := true } still 1, rfl, rfl⟩
theorem witness_SqHighReleasesReset : ∃ s : State, s.ports.rst = false ∧ s.blk.seq = .sqHigh :=
  ⟨at_ .tvBase { lowBlock 0 with seq := .sqHigh } still 1, rfl, rfl⟩

/-- The smallest count that goes on, and the largest that ends each wait. -/
theorem witness_WaitStatesCountDown :
    (∃ s : State, s.ports.rst = false ∧ s.blk.seq = .rmSettle ∧ s.blk.timer = 2) ∧
    (∃ s : State, s.ports.rst = false ∧ s.blk.seq = .rfSettle ∧ s.blk.timer = 1 ∧ s.blk.inRp = false) ∧
    (∃ s : State, s.ports.rst = false ∧ s.blk.seq = .rfSettle ∧ s.blk.timer = 1 ∧ s.blk.inRp = true) ∧
    (∃ s : State, s.ports.rst = false ∧ s.blk.seq = .rmSettle ∧ s.blk.timer = 1) ∧
    ∃ s : State, s.ports.rst = false ∧ s.blk.seq = .sqLow ∧ s.blk.timer = 1 :=
  ⟨⟨at_ .tvBase (rmWait 2) still 1, rfl, rfl, rfl⟩,
    ⟨at_ .tvBase { Block.reset with seq := .rfSettle, timer := 1 } still 1, rfl, rfl, rfl, rfl⟩,
    ⟨at_ .tvBase { Block.reset with seq := .rfSettle, timer := 1, inRp := true } still 1, rfl, rfl, rfl, rfl⟩,
    ⟨at_ .tvBase (rmWait 1) still 1, rfl, rfl, rfl⟩, ⟨at_ .tvBase (lowBlock 1) still 1, rfl, rfl, rfl⟩⟩

/-- Success in the tick that would have timed out; the baseline; the timeout with the last sample; the sample before. -/
theorem witness_SqPollSamplesDone :
    (∃ s : State, s.ports.rst = false ∧ s.blk.seq = .sqPoll ∧ s.ports.doneIn = s.params.doneTrueLevel) ∧
    (∃ s : State, s.ports.rst = false ∧ s.blk.seq = .sqPoll ∧ s.ports.doneIn ≠ s.params.doneTrueLevel ∧
      s.params.timeoutTicks = none) ∧
    (∃ (s : State) (n : Nat), s.ports.rst = false ∧ s.blk.seq = .sqPoll ∧
      s.ports.doneIn ≠ s.params.doneTrueLevel ∧ s.params.timeoutTicks = some n ∧ s.blk.pollCnt + 1 = n) ∧
    ∃ (s : State) (n : Nat), s.ports.rst = false ∧ s.blk.seq = .sqPoll ∧
      s.ports.doneIn ≠ s.params.doneTrueLevel ∧ s.params.timeoutTicks = some n ∧ s.blk.pollCnt + 2 = n :=
  ⟨⟨at_ .tvHard { pollBlock with pollCnt := 3 } (port false 0#4 true) 1, rfl, rfl, rfl⟩,
    ⟨at_ .tvBase pollBlock still 1, rfl, rfl, by decide, rfl⟩,
    ⟨at_ .tvHard { pollBlock with pollCnt := 3 } still 1, 4, rfl, rfl, by decide, rfl, rfl⟩,
    ⟨at_ .tvHard { pollBlock with pollCnt := 2 } still 1, 4, rfl, rfl, by decide, rfl, rfl⟩⟩

/-! Safe blocks to start from. -/

/-- `RESET_STATE` under `TV_BASE`. -/
theorem safe_reset : SafeBlock .tvBase Block.reset := by
  constructor <;> simp [Block.reset, Params.tvBase, AtMicroStep]

/-- The poll of the hardened variant, one sample short of its timeout. -/
theorem safe_poll : SafeBlock .tvHard { pollBlock with pollCnt := 3 } := by
  constructor <;> simp [pollBlock, loadingBlock, Block.reset, Params.tvHard, Params.tvBase, AtMicroStep]

/-- The last tick before the line is released. -/
theorem safe_high : SafeBlock .tvBase { lowBlock 0 with seq := .sqHigh } := by
  constructor <;> simp [lowBlock, pollBlock, loadingBlock, Block.reset, Params.tvBase, AtMicroStep]

/-- A programmed FPGA about to be reset again. -/
theorem safe_out : SafeBlock .tvBase { loadingBlock with seq := .sqOut, inRp := true, fpgaState := .programmed } := by
  constructor <;> simp [loadingBlock, Block.reset, Params.tvBase, AtMicroStep]

theorem witness_ResetStateIsSafe : ∃ p : Params, p.wf = true := ⟨.tvHard, by decide⟩

theorem witness_StepKeepsTheBlockSafe : ∃ s t : State,
    s.params.wf = true ∧ SafeBlock s.params s.blk ∧ step s = .next t ∧ t.blk.cfgTimeout = true :=
  ⟨at_ .tvHard { pollBlock with pollCnt := 3 } still 1, _, by decide, safe_poll, rfl, by decide⟩

theorem witness_RunsFromResetStateStaySafe : ∃ s : State, s.params.wf = true ∧ s.blk = Block.reset :=
  ⟨at_ .tvBase Block.reset (port true 0x3#4 false) 12, by decide, rfl⟩

theorem witness_CompletedOperationLeavesDriverAsOwner : ∃ (n : Nat) (s t : State),
    s.params.wf = true ∧ SafeBlock s.params s.blk ∧ s.blk.seq ≠ .idle ∧ NoReset s n ∧ ticks n s = .next t ∧
      t.blk.seq = .idle :=
  ⟨1, at_ .tvHard { pollBlock with pollCnt := 3 } still 1, _, by decide, safe_poll, by decide,
    by unfold NoReset; decide, rfl, rfl⟩

/-- Each of the three fields changes in one of its micro-steps. -/
theorem witness_ArbiterFieldsHaveTheirWriters :
    (∃ s t : State, s.ports.rst = false ∧ step s = .next t ∧ t.blk.owner ≠ s.blk.owner ∧
      t.blk.driveEn ≠ s.blk.driveEn) ∧
    ∃ s t : State, s.ports.rst = false ∧ step s = .next t ∧ t.blk.pinDrv ≠ s.blk.pinDrv :=
  ⟨⟨at_ .tvBase { Block.reset with seq := .rfEn } still 1, _, rfl, rfl, by decide, by decide⟩,
    ⟨at_ .tvBase { Block.reset with seq := .rmPins } still 1, _, rfl, rfl, by decide⟩⟩

/-- Reset, the last failed sample, an accepted `RST_PROG`, and a rejected one that keeps the flag. -/
theorem witness_TimeoutFlagIsSticky :
    (∃ s : State, s.ports.rst = true ∧ s.blk.cfgTimeout = true) ∧
    (∃ (s : State) (n : Nat), s.ports.rst = false ∧ s.blk.seq = .sqPoll ∧
      s.ports.doneIn ≠ s.params.doneTrueLevel ∧ s.params.timeoutTicks = some n ∧ n = s.blk.pollCnt + 1) ∧
    (∃ s : State, s.ports.rst = false ∧ s.blk.seq = .idle ∧ presents s.ports .rstProg = true) ∧
    ∃ s : State, s.ports.rst = false ∧ s.blk.seq = .rmSettle ∧ s.blk.cfgTimeout = true ∧
      presents s.ports .rstProg = true :=
  ⟨⟨at_ .tvHard { loadingBlock with cfgTimeout := true } { still with rst := true } 1, rfl, rfl⟩,
    ⟨at_ .tvHard { pollBlock with pollCnt := 3 } still 1, 4, rfl, rfl, by decide, rfl, rfl⟩,
    ⟨at_ .tvHard { loadingBlock with cfgTimeout := true } (port true 0x3#4 false) 1, rfl, rfl, by decide⟩,
    ⟨at_ .tvHard { rmWait 1 with cfgTimeout := true } (port true 0x3#4 false) 1, rfl, rfl, rfl, by decide⟩⟩

/-- Each edge of the graph is taken by some step from a safe block. -/
theorem witness_FpgaStateNeverSkipsLoading :
    (∃ s t : State, s.params.wf = true ∧ SafeBlock s.params s.blk ∧ step s = .next t ∧
      s.blk.fpgaState = .programmed ∧ t.blk.fpgaState = .inReset) ∧
    (∃ s t : State, s.params.wf = true ∧ SafeBlock s.params s.blk ∧ step s = .next t ∧
      s.blk.fpgaState = .inReset ∧ t.blk.fpgaState = .loading) ∧
    ∃ s t : State, s.params.wf = true ∧ SafeBlock s.params s.blk ∧ step s = .next t ∧
      s.blk.fpgaState = .loading ∧ t.blk.fpgaState = .programmed :=
  ⟨⟨at_ .tvBase { loadingBlock with seq := .sqOut, inRp := true, fpgaState := .programmed } still 1, _, by decide,
      safe_out, rfl, rfl, rfl⟩,
    ⟨at_ .tvBase { lowBlock 0 with seq := .sqHigh } still 1, _, by decide, safe_high, rfl, rfl, rfl⟩,
    ⟨at_ .tvHard { pollBlock with pollCnt := 3 } (port false 0#4 true) 1, _, by decide, safe_poll, rfl, rfl, rfl⟩⟩

/-- A rise, and a fall. -/
theorem witness_IndicatorRisesOncePerSuccess :
    (∃ s t : State, s.params.wf = true ∧ SafeBlock s.params s.blk ∧ s.params.hasIndicator = true ∧
      step s = .next t ∧ s.blk.seq = .sqPoll ∧ s.ports.doneIn = s.params.doneTrueLevel) ∧
    ∃ s t : State, s.params.wf = true ∧ SafeBlock s.params s.blk ∧ s.params.hasIndicator = true ∧
      step s = .next t ∧ (pins s.params s.blk).indicator = some true ∧ s.blk.seq = .sqOut :=
  ⟨⟨at_ .tvHard { pollBlock with pollCnt := 3 } (port false 0#4 true) 1, _, by decide, safe_poll, rfl, rfl, rfl, rfl⟩,
    ⟨at_ .tvBase { loadingBlock with seq := .sqOut, inRp := true, fpgaState := .programmed } still 1, _, by decide,
      safe_out, rfl, rfl, rfl, rfl⟩⟩

theorem witness_ResetReleasedOnlyWithTheBusAtTheFpga : ∃ s t : State,
    s.params.wf = true ∧ SafeBlock s.params s.blk ∧ step s = .next t ∧
      (pins s.params s.blk).progPin = some false ∧ (pins t.params t.blk).progPin = some true :=
  ⟨at_ .tvBase { lowBlock 0 with seq := .sqHigh } still 1, _, by decide, safe_high, rfl, rfl, rfl⟩

/-- The latch is set, and the latch is cleared. -/
theorem witness_LatchIsNeverClearedAutomatically :
    (∃ s t : State, step s = .next t ∧ s.blk.doneLatch = false ∧ t.blk.doneLatch = true) ∧
    ∃ s t : State, step s = .next t ∧ s.blk.doneLatch = true ∧ t.blk.doneLatch = false :=
  ⟨⟨at_ .tvBase edgeBlock still 1, _, rfl, rfl, rfl⟩,
    ⟨at_ .tvBase { Block.reset with doneLatch := true } (port true 0x8#4 false) 1, _, rfl, rfl, rfl⟩⟩

/-- The last state of the run, `SETTLE_TICKS + 3` with the smallest admissible wait of `TV_BASE`. -/
theorem witness_RelFpgaTiming : ∃ (s : State) (k : Nat), s.params.wf = true ∧ s.blk.seq = .idle ∧
    presents s.ports .relFpga = true ∧ NoReset s (s.params.settleTicks + 3) ∧ k = s.params.settleTicks + 3 :=
  ⟨at_ .tvBase mcuBlock (port true 0x1#4 false) 6, 6, by decide, rfl, by decide, by unfold NoReset; decide, rfl⟩

theorem witness_RelMcuTiming : ∃ (s : State) (k : Nat), s.params.wf = true ∧ s.blk.seq = .idle ∧
    presents s.ports .relMcu = true ∧ NoReset s (s.params.settleTicks + 3) ∧ k = s.params.settleTicks + 3 :=
  ⟨at_ .tvBase loadingBlock (port true 0x2#4 false) 6, 6, by decide, rfl, by decide, by unfold NoReset; decide, rfl⟩

theorem witness_RstProgTiming : ∃ (s : State) (L P k : Nat), s.params.wf = true ∧ s.params.settleTicks = L ∧
    s.params.pulseTicks = P ∧ s.blk.seq = .idle ∧ presents s.ports .rstProg = true ∧ NoReset s (L + P + 6) ∧
    1 ≤ k ∧ k = L + P + 6 :=
  ⟨at_ .tvBase mcuBlock (port true 0x3#4 false) 12, 3, 2, 11, by decide, rfl, rfl, rfl, by decide,
    by unfold NoReset; decide, by decide, rfl⟩

theorem witness_PulseLastsAtLeastItsMinimum : ∃ (s : State) (k : Nat), s.params.wf = true ∧ s.blk.seq = .sqOut ∧
    NoReset s (s.params.pulseTicks + 2) ∧ 1 ≤ k ∧ k = s.params.pulseTicks + 1 :=
  ⟨at_ .tvBase { loadingBlock with seq := .sqOut, inRp := true } still 6, 3, by decide, rfl, by unfold NoReset; decide,
    by decide, rfl⟩

/-- The done input of a run: low, then high from tick `m` on, as long as the trace lasts. -/
def riseAt (p : Params) (b : Block) (i : Inputs) (m n : Nat) : State :=
  { at_ p b i 0 with
    trace := List.replicate (m - 1) still ++ List.replicate n { still with doneIn := true } }

/-- Done comes with the last sample before the timeout, and with the first sample of all in the baseline. -/
theorem witness_RstProgSucceedsWhenDoneComesInTime :
    (∃ (s : State) (p0 m : Nat), s.params.wf = true ∧ p0 = s.params.settleTicks + s.params.pulseTicks + 6 ∧
      s.blk.seq = .idle ∧ presents s.ports .rstProg = true ∧ NoReset s (p0 + m + 1) ∧
      (∀ j, j < m → doneAt s (p0 + j) = false) ∧ doneAt s (p0 + m) = true ∧ m = 3 ∧
      (∀ n, s.params.timeoutTicks = some n → m < n) ∧ s.params.timeoutTicks = some 4) ∧
    ∃ (s : State) (p0 m : Nat), s.params.wf = true ∧ p0 = s.params.settleTicks + s.params.pulseTicks + 6 ∧
      s.blk.seq = .idle ∧ presents s.ports .rstProg = true ∧ NoReset s (p0 + m + 1) ∧
      (∀ j, j < m → doneAt s (p0 + j) = false) ∧ doneAt s (p0 + m) = true ∧ m = 0 ∧
      (∀ n, s.params.timeoutTicks = some n → m < n) ∧ s.params.timeoutTicks = none :=
  ⟨⟨riseAt .tvHard Block.reset (port true 0x3#4 false) 14 2, 11, 3, by decide, rfl, rfl, by decide,
      by unfold NoReset; decide, by decide, by decide, rfl, by rintro n ⟨⟩; decide, rfl⟩,
    ⟨riseAt .tvBase Block.reset (port true 0x3#4 false) 11 2, 11, 0, by decide, rfl, rfl, by decide,
      by unfold NoReset; decide, by decide, by decide, rfl, by rintro n ⟨⟩, rfl⟩⟩

theorem witness_ConfigurationTimeoutIsExact : ∃ (s : State) (p0 T : Nat), s.params.wf = true ∧
    p0 = s.params.settleTicks + s.params.pulseTicks + 6 ∧ s.params.timeoutTicks = some T ∧ s.blk.seq = .idle ∧
    presents s.ports .rstProg = true ∧ NoReset s (p0 + T) ∧ ∀ j, j < T → doneAt s (p0 + j) = false :=
  ⟨at_ .tvHard Block.reset (port true 0x3#4 false) 15, 11, 4, by decide, rfl, rfl, rfl, by decide,
    by unfold NoReset; decide, by decide⟩

/-- A run that reaches the poll, and the shortest run. -/
theorem witness_BaselinePollNeverEnds :
    (∃ (s : State) (p0 n : Nat), s.params.wf = true ∧ p0 = s.params.settleTicks + s.params.pulseTicks + 6 ∧
      s.params.timeoutTicks = none ∧ s.blk.seq = .idle ∧ s.blk.pollCnt = 0 ∧ presents s.ports .rstProg = true ∧
      NoReset s (n + 1) ∧ (∀ k, p0 ≤ k → k ≤ n → doneAt s k = false) ∧ n = p0 + 2) ∧
    ∃ (s : State) (p0 n : Nat), s.params.wf = true ∧ p0 = s.params.settleTicks + s.params.pulseTicks + 6 ∧
      s.params.timeoutTicks = none ∧ s.blk.seq = .idle ∧ s.blk.pollCnt = 0 ∧ presents s.ports .rstProg = true ∧
      NoReset s (n + 1) ∧ (∀ k, p0 ≤ k → k ≤ n → doneAt s k = false) ∧ n = 0 := by
  have hd (s : State) (h : ∀ k, k < 14 → doneAt s k = false) : ∀ k, 11 ≤ k → k ≤ 13 → doneAt s k = false :=
    fun k _ h2 => h k (by omega)
  exact ⟨⟨at_ .tvBase Block.reset (port true 0x3#4 false) 14, 11, 13, by decide, rfl, rfl, rfl, rfl, by decide,
      by unfold NoReset; decide, hd _ (by decide), rfl⟩,
    ⟨at_ .tvBase Block.reset (port true 0x3#4 false) 1, 11, 0, by decide, rfl, rfl, rfl, rfl, by decide,
      by unfold NoReset; decide, fun k h1 h2 => by omega, rfl⟩⟩

/-- An edge in the tick of a `TAKE_LATCH`, then two ticks without a clear. -/
theorem witness_EdgeIsNeverLostToAClear : ∃ (n : Nat) (s : State), s.blk.armed = true ∧ s.blk.donePrev = true ∧
    s.ports.doneIn = false ∧ NoReset s (n + 1) ∧ presents s.ports .takeLatch = true ∧ n = 2 ∧
    ∀ k, 1 ≤ k → k ≤ n →
      presents (s.inputAt k) .clrLatch = false ∧ presents (s.inputAt k) .takeLatch = false := by
  refine ⟨2, at_ .tvBase edgeBlock (port true 0x8#4 false) 3, rfl, rfl, rfl, by unfold NoReset; decide, by decide,
    rfl, fun k _ h2 => ?_⟩
  have h : ∀ k, k < 2 →
      presents ((at_ .tvBase edgeBlock (port true 0x8#4 false) 3).inputAt (k + 1)) .clrLatch = false := by decide
  have h' : ∀ k, k < 2 →
      presents ((at_ .tvBase edgeBlock (port true 0x8#4 false) 3).inputAt (k + 1)) .takeLatch = false := by decide
  obtain ⟨j, rfl⟩ : ∃ j, k = j + 1 := ⟨k - 1, by omega⟩
  exact ⟨h j (by omega), h' j (by omega)⟩

/-- The MCU has the bus, drives it and is idle. -/
theorem safe_mcu : SafeBlock .tvBase mcuBlock := by
  constructor <;> simp [mcuBlock, Block.reset, Params.tvBase, AtMicroStep]

/-- An idle block whose owner drives, and the last tick of an operation. -/
theorem witness_StepKeepsTheDriverAsOwner :
    (∃ s t : State, s.params.wf = true ∧ SafeBlock s.params s.blk ∧ s.blk.seq = .idle ∧ DriverIsOwner s.blk ∧
      s.ports.rst = false ∧ step s = .next t) ∧
    ∃ s t : State, s.params.wf = true ∧ SafeBlock s.params s.blk ∧ s.blk.seq ≠ .idle ∧ s.ports.rst = false ∧
      step s = .next t ∧ t.blk.seq = .idle :=
  ⟨⟨at_ .tvBase mcuBlock still 1, _, by decide, safe_mcu, rfl, by unfold DriverIsOwner; decide, rfl, rfl⟩,
    ⟨at_ .tvHard { pollBlock with pollCnt := 3 } still 1, _, by decide, safe_poll, by decide, rfl, rfl, rfl⟩⟩

/-- Two ticks after reset in which no operation starts. -/
theorem witness_NobodyDrivesBeforeTheFirstOperation : ∃ (n : Nat) (s : State), s.blk = Block.reset ∧ n = 2 ∧
    ∀ k, k ≤ n → ∃ t, ticks k s = .next t ∧ t.blk.seq = .idle := by
  refine ⟨2, at_ .tvBase Block.reset (port true 0x5#4 false) 2, rfl, rfl, fun k hk => ?_⟩
  match k, hk with
  | 0, _ => exact ⟨_, rfl, rfl⟩
  | 1, _ => exact ⟨_, rfl, rfl⟩
  | 2, _ => exact ⟨_, rfl, rfl⟩

/-- Each micro-step that writes one of the three fields, and one that writes none. -/
theorem witness_ModeSelectAndLineHaveTheirWriters :
    ∀ q ∈ [Seq.sqMode, .sqOut, .sqHigh, .sqPoll], ∃ s t : State,
      s.ports.rst = false ∧ s.blk.seq = q ∧ step s = .next t := by
  intro q hq
  simp only [List.mem_cons, List.not_mem_nil, or_false] at hq
  rcases hq with rfl | rfl | rfl | rfl
  · exact ⟨at_ .tvBase { Block.reset with seq := .sqMode } still 1, _, rfl, rfl, rfl⟩
  · exact ⟨at_ .tvBase { loadingBlock with seq := .sqOut } still 1, _, rfl, rfl, rfl⟩
  · exact ⟨at_ .tvBase { lowBlock 0 with seq := .sqHigh } still 1, _, rfl, rfl, rfl⟩
  · exact ⟨at_ .tvBase pollBlock still 1, _, rfl, rfl, rfl⟩

/-- Two runs that differ in the monitor's fields and in a monitor command. -/
theorem witness_MonitorSideInfluencesNothingElse : ∃ (n : Nat) (s s' : State), s.params = s'.params ∧
    SameSequencing s.blk s'.blk ∧
    (∀ k, k < n → eraseMonitorCommand (s.inputAt k) = eraseMonitorCommand (s'.inputAt k)) ∧
    n = 3 ∧ s.ports ≠ s'.ports ∧ s.blk ≠ s'.blk :=
  ⟨3, at_ .tvBase { edgeBlock with seq := .rfHiz } (port true 0x5#4 false) 3,
    at_ .tvBase { Block.reset with seq := .rfHiz } (port true 0x0#4 false) 3, rfl, rfl, by decide, rfl, by decide,
    by decide⟩

end Sys2Proof.Tests
end

section
/-! SUPPORT. The family `10_state.md`: the STATUS word (R37) and the flag `cfg_timeout` (R30). -/

namespace Sys2Proof.Machine

/-! ### The STATUS word -/

/-- The two fields of the STATUS word that are wider than a bit (R37): the fields below are shifted out one by one, until
the wanted one stands at the low end. -/
theorem statusWord_wide_field (b : Block) (d : Bool) :
    (statusWord b d).extractLsb' 2 4 = b.pinDrv ∧
    (statusWord b d).extractLsb' 9 2 = fpgaStateCode b.fpgaState := by
  constructor <;>
    simp only [statusWord, BitVec.extractLsb'_append_eq_of_le, BitVec.extractLsb'_append_eq_right, Nat.reduceLeDiff,
      Nat.reduceSub, le_refl]

theorem ownerBit_eq_true (o : Owner) : ownerBit o = true ↔ o = .fpga := by
  cases o <;> simp [ownerBit]

/-- Right after reset, with done false, only `prog_lvl` is 1 (R37, R42). -/
theorem statusWord_reset : statusWord Block.reset false = 0x0100#16 := by decide

/-- `STATUS` is the tick without a command but for its answer (R37, R161). -/
theorem exec_status (s : State) :
    exec .status s = .next { quietTick s with
      out := { rspValid := true, rspCode := 0#2
               rspData := statusWord s.blk (doneSample s.params s.ports.doneIn)
               monEvt := (quietTick s).out.monEvt } } := rfl

/-- Settles O14: the word is `statusWord` of the pre-state and the tick's sample, read field by field. -/
theorem statusReportsEveryField : Obligations.StatusReportsEveryField := by
  unfold Obligations.StatusReportsEveryField
  constructor
  · intro s
    obtain ⟨howner, hdrive, hmode, hoe, hlvl, hdone, hlatch, harmed, hbusy, htimeout⟩ :=
      statusWord_field s.blk (doneSample s.params s.ports.doneIn)
    obtain ⟨hpins, hfpga⟩ := statusWord_wide_field s.blk (doneSample s.params s.ports.doneIn)
    refine ⟨statusWord s.blk (doneSample s.params s.ports.doneIn), exec_status s, ?_, hdrive, hpins, hmode, hoe, hlvl,
      ?_, ?_, hlatch, harmed, ?_, htimeout⟩
    · rw [howner, ownerBit_eq_true]
    · rw [hfpga]; cases s.blk.fpgaState <;> rfl
    · rw [hdone, doneSample_eq_true]
    · rw [hbusy, busy_eq_true]
  · intro s hreset hdone
    have hsample : doneSample s.params s.ports.doneIn = false := by
      rwa [← Bool.not_eq_true, doneSample_eq_true]
    refine ⟨_, exec_status s, ?_⟩
    simp only [hreset, hsample, statusWord_reset]

/-! ### The flag `cfg_timeout` -/

/-- The tick of a block `b` with the level `l` on `done_in` is the timeout exit of `SQ_POLL`: a failed sample that brings
the count to a finite `TIMEOUT_TICKS` (R30, R128). -/
def PollTimesOut (p : Params) (b : Block) (l : Bool) : Prop :=
  ∃ n, b.seq = .sqPoll ∧ l ≠ p.doneTrueLevel ∧ p.timeoutTicks = some n ∧ n ≤ b.pollCnt + 1

theorem waitTick_cfgTimeout (after : Seq) (b : Block) : (waitTick after b).cfgTimeout = b.cfgTimeout := by
  unfold waitTick; split <;> rfl

theorem pollFailed_cfgTimeout_kept (p : Params) (b : Block)
    (h : ∀ n, p.timeoutTicks = some n → b.pollCnt + 1 < n) : (pollFailed p b).cfgTimeout = b.cfgTimeout := by
  obtain ⟨hbaseline, -, hcount⟩ := pollFailed_spec p b
  cases ht : p.timeoutTicks with
  | none => rw [hbaseline ht]
  | some n => rw [hcount n ht (h n ht)]

/-- The timeout exit sets the flag. -/
theorem microStep_cfgTimeout_timeout {p : Params} {b : Block} {l : Bool} (start : Option Operation)
    (h : PollTimesOut p b l) : (microStep p (doneSample p l) start b).cfgTimeout = true := by
  obtain ⟨n, hq, hl, ht, hn⟩ := h
  have hd : ¬ doneSample p l = true := by rwa [doneSample_eq_true]
  obtain ⟨-, htimeout, -⟩ := pollFailed_spec p b
  simp [microStep, hq, microSqPoll, hd, htimeout n ht hn]

/-- An idle block clears the flag exactly where it accepts `RST_PROG`. -/
theorem microStep_cfgTimeout_idle (p : Params) (d : Bool) (start : Option Operation) {b : Block} (h : b.seq = .idle) :
    (microStep p d start b).cfgTimeout = if start = some .rstProg then false else b.cfgTimeout := by
  simp only [microStep, h]
  unfold startOperation
  split <;> simp

/-- A busy block keeps the flag in every tick but the timeout exit. -/
theorem microStep_cfgTimeout_busy (p : Params) (l : Bool) (start : Option Operation) {b : Block} (hbusy : b.seq ≠ .idle)
    (h : ¬ PollTimesOut p b l) : (microStep p (doneSample p l) start b).cfgTimeout = b.cfgTimeout := by
  cases hq : b.seq with
  | idle => exact absurd hq hbusy
  | rfSettle => simp [microStep, hq, microRfSettle, waitTick_cfgTimeout]
  | rmSettle => simp [microStep, hq, microRmSettle, waitTick_cfgTimeout]
  | sqLow => simp [microStep, hq, microSqLow, waitTick_cfgTimeout]
  | sqPoll =>
    simp only [microStep, hq, microSqPoll]
    split
    · simp
    · next hd =>
      rw [doneSample_eq_true] at hd
      exact pollFailed_cfgTimeout_kept p b fun n ht => Nat.lt_of_not_le fun hn => h ⟨n, hq, hd, ht, hn⟩
  | _ => simp [microStep, hq]

theorem operationOf_eq_rstProg (i : Instr) : operationOf i = some .rstProg ↔ i = .rstProg := by
  cases i <;> simp [operationOf]

/-- An idle block is asked to start `resetAndProgram()` by a presented `RST_PROG` and by nothing else (R164). -/
theorem portRequest_start_rstProg (s : State) (hr : s.ports.rst = false) (h : s.blk.seq = .idle) :
    (portRequest s).start = some .rstProg ↔ presents s.ports .rstProg = true := by
  rw [portRequest_start_idle s h]
  cases hv : s.ports.cmdValid <;> simp [presents, hr, hv, operationOf_eq_rstProg]

/-- The monitor and the arm request leave the flag to the micro-step (R68). -/
theorem nextBlock_cfgTimeout (p : Params) (b : Block) (l : Bool) (r : Request) :
    (nextBlock p b l r).cfgTimeout = (microStep p (doneSample p l) r.start b).cfgTimeout := rfl

/-- Settles O36: a reset tick clears the flag; any other tick gives it what the micro-step gives it, which sets it at
the timeout exit, clears it at the acceptance of `RST_PROG`, and keeps it otherwise. -/
theorem timeoutFlagIsSticky : Obligations.TimeoutFlagIsSticky := by
  unfold Obligations.TimeoutFlagIsSticky
  intro s
  cases hr : s.ports.rst with
  | true => exact ⟨_, step_reset s hr, fun _ => rfl, nofun⟩
  | false =>
    refine ⟨_, step_run s hr, nofun, fun _ => ?_⟩
    simp only [advance_blk, runTick_blk, nextBlock_cfgTimeout]
    refine ⟨fun n hq hl ht hn => ?set, fun hq hp => ?clear, fun hpoll haccept => ?keep⟩
    case set => exact microStep_cfgTimeout_timeout _ ⟨n, hq, hl, ht, hn⟩
    case clear => rw [microStep_cfgTimeout_idle _ _ _ hq, if_pos ((portRequest_start_rstProg s hr hq).2 hp)]
    case keep =>
      by_cases hq : s.blk.seq = .idle
      · have hstart : ¬ (portRequest s).start = some .rstProg := fun hs =>
          haccept ⟨hq, (portRequest_start_rstProg s hr hq).1 hs⟩
        rw [microStep_cfgTimeout_idle _ _ _ hq, if_neg hstart]
      · exact microStep_cfgTimeout_busy _ _ _ hq hpoll

end Sys2Proof.Machine
end

section
/-! SUPPORT. The family `30_encoding.md`: the opcode map (R82, R86) and the answer of every presented command (R84). -/

namespace Sys2Proof.Machine

/-! ### The opcode map -/

open Laws.ClassFollowsOpcode in
/-- The per-instruction family, for every command. -/
theorem classFollowsOpcode : ∀ i : Instr, Statement i
  | .nop => nop | .relFpga => relFpga | .relMcu => relMcu | .rstProg => rstProg
  | .isProg => isProg | .arm => arm | .rdLatch => rdLatch | .clrLatch => clrLatch
  | .takeLatch => takeLatch | .status => status | .reservedA => reservedA | .reservedB => reservedB
  | .reservedC => reservedC | .reservedD => reservedD | .reservedE => reservedE | .reservedF => reservedF

/-- The decoder loses nothing of a word: no two of the sixteen stand for one command (R80, R86). -/
theorem encode_decodeCmd : ∀ c : Cmd, encode (decodeCmd c) = c := by decide

/-- The reserved range of the port's words (R86). -/
theorem classOf_decodeCmd_eq_reserved (c : Cmd) : classOf (decodeCmd c) = .reserved ↔ 0b1010#4 ≤ c := by
  obtain ⟨-, hreserved, -⟩ := classFollowsOpcode (decodeCmd c)
  rw [hreserved, encode_decodeCmd]
  simp [BitVec.le_def]

/-- Settles O1: each of the ten words evaluates to its row of the table, and the reserved range is the class law read at
the word that was decoded. -/
theorem commandWordsDecodeAsTabled : Obligations.CommandWordsDecodeAsTabled := by
  unfold Obligations.CommandWordsDecodeAsTabled
  exact ⟨⟨rfl, rfl⟩, ⟨rfl, rfl⟩, ⟨rfl, rfl⟩, ⟨rfl, rfl⟩, ⟨rfl, rfl⟩, ⟨rfl, rfl⟩, ⟨rfl, rfl⟩, ⟨rfl, rfl⟩, ⟨rfl, rfl⟩,
    ⟨rfl, rfl⟩, fun c => (classOf_decodeCmd_eq_reserved c).2⟩

/-! ### The answer to a command -/

/-- A presented command makes its own request (R74). -/
theorem portRequest_command {s : State} (h : s.ports.cmdValid = true) :
    portRequest s = requestOf s (decodeCmd s.ports.cmd) := by
  simp [portRequest, h]

/-- What a blocking command asks for is the accept-or-reject of its operation (R164). -/
theorem requestOf_of_blocking (s : State) {i : Instr} (h : classOf i = .blocking) :
    ∃ op, requestOf s i = Request.blocking s.blk op := by
  cases i with
  | relFpga => exact ⟨.relFpga, rfl⟩
  | relMcu => exact ⟨.relMcu, rfl⟩
  | rstProg => exact ⟨.rstProg, rfl⟩
  | _ => cases h

/-- A reserved code point asks for nothing but its answer (R86). -/
theorem requestOf_of_reserved (s : State) {i : Instr} (h : classOf i = .reserved) :
    requestOf s i = Request.respond rspIllegal 0#16 := by
  cases i with
  | reservedA | reservedB | reservedC | reservedD | reservedE | reservedF => rfl
  | _ => cases h

/-- A non-blocking command is always performed (R83, R163). -/
theorem requestOf_of_nonBlocking (s : State) {i : Instr} (h : classOf i = .nonBlocking) :
    (requestOf s i).rspValid = true ∧ (requestOf s i).rspCode = rspOk := by
  cases i with
  | nop | isProg | arm | rdLatch | clrLatch | takeLatch | status => exact ⟨rfl, rfl⟩
  | _ => cases h

/-- Everything a command can be answered: a bare `REJECTED`, a bare `ILLEGAL`, or `OK` (R84). -/
theorem requestOf_cases (s : State) (i : Instr) :
    (classOf i = .blocking ∧ s.blk.seq ≠ .idle ∧ requestOf s i = Request.respond rspRejected 0#16) ∨
    (classOf i = .reserved ∧ requestOf s i = Request.respond rspIllegal 0#16) ∨
    ((classOf i = .blocking → s.blk.seq = .idle) ∧ classOf i ≠ .reserved ∧
      (requestOf s i).rspValid = true ∧ (requestOf s i).rspCode = rspOk) := by
  cases hclass : classOf i with
  | nonBlocking => exact .inr (.inr ⟨nofun, nofun, requestOf_of_nonBlocking s hclass⟩)
  | reserved => exact .inr (.inl ⟨rfl, requestOf_of_reserved s hclass⟩)
  | blocking =>
    obtain ⟨op, hop⟩ := requestOf_of_blocking s hclass
    obtain ⟨haccept, hreject⟩ := blocking_spec s.blk op
    by_cases hq : s.blk.seq = .idle
    · refine .inr (.inr ⟨fun _ => hq, nofun, ?_⟩)
      rw [hop, haccept hq]
      exact ⟨rfl, rfl⟩
    · exact .inl ⟨rfl, hq, hop.trans (hreject hq)⟩

/-- A bare response leaves the block what the tick without a command makes of it (R84, R162). -/
theorem nextBlock_respond (p : Params) (b : Block) (l : Bool) (code : RspCode) (data : Data) :
    nextBlock p b l (Request.respond code data) = nextBlock p b l Request.quiet := rfl

@[simp] theorem respond_rspValid (code : RspCode) (data : Data) : (Request.respond code data).rspValid = true := rfl
@[simp] theorem respond_rspCode (code : RspCode) (data : Data) : (Request.respond code data).rspCode = code := rfl
@[simp] theorem respond_rspData (code : RspCode) (data : Data) : (Request.respond code data).rspData = data := rfl

/-- Settles O17: the step is the tick with the command's request, and each of the three requests a command can make has
its own code; the two that are not `OK` are bare responses. -/
theorem everyCommandIsAnswered : Obligations.EveryCommandIsAnswered := by
  unfold Obligations.EveryCommandIsAnswered
  intro s hrst hvalid
  refine ⟨_, step_run s hrst, ?_⟩
  simp only [advance_out, advance_blk, runTick_out, runTick_blk, quietTick_blk, tickOutputs,
    portRequest_command hvalid]
  obtain ⟨hclass, hbusy, hreq⟩ | ⟨hclass, hreq⟩ | ⟨hidle, hclass, hrsp, hcode⟩ :=
    requestOf_cases s (decodeCmd s.ports.cmd)
  case inl => simp [hreq, hclass, hbusy, rspRejected, nextBlock_respond]
  case inr.inl => simp [hreq, hclass, rspIllegal, nextBlock_respond]
  case inr.inr => simpa [hrsp, hcode, rspOk, hclass] using hidle

end Sys2Proof.Machine
end

section
/-! SUPPORT. The family `40_arbiter.md`: the three micro-steps in which the arbiter switches the bus (R102, R103, R107). -/

namespace Sys2Proof.Machine

/-- In a tick without reset the arbiter and the sequencer perform their micro-step and nothing else, whatever the host
presents: a command reaches them through the start request alone (R68, R167, R170). -/
theorem step_sameSequencing_microStep {s : State} (hrst : s.ports.rst = false) :
    ∃ t, step s = .next t ∧ SameSequencing t.blk
      (microStep s.params (doneSample s.params s.ports.doneIn) (portRequest s).start s.blk) :=
  ⟨advance (runTick s (portRequest s)), step_run s hrst,
    nextBlock_sequencing s.params s.blk s.ports.doneIn (portRequest s)⟩

/-! ### The writes of the micro-steps; none reads the sample or the start request -/

/-- R102. -/
theorem microStep_of_rfHiz (p : Params) (d : Bool) (start : Option Operation) {b : Block} (hseq : b.seq = .rfHiz) :
    microStep p d start b = { b with pinDrv := 0b0000#4, seq := .rfEn } := by
  rw [microStep, hseq]; rfl

/-- R103. -/
theorem microStep_of_rfEn (p : Params) (d : Bool) (start : Option Operation) {b : Block} (hseq : b.seq = .rfEn) :
    microStep p d start b =
      { b with driveEn := true, owner := .fpga, timer := p.settleTicks, seq := .rfSettle } := by
  rw [microStep, hseq]; rfl

/-- R107. -/
theorem microStep_of_rmDis (p : Params) (d : Bool) (start : Option Operation) {b : Block} (hseq : b.seq = .rmDis) :
    microStep p d start b =
      { b with driveEn := false, owner := .mcu, timer := p.settleTicks, seq := .rmSettle } := by
  rw [microStep, hseq]; rfl

/-! ### The statements -/

/-- Settles O20: the tick's twelve fields are the micro-step's, and that is `RF_HIZ`. -/
theorem rfHizFloatsThePins : Obligations.RfHizFloatsThePins := by
  unfold Obligations.RfHizFloatsThePins
  intro s hrst hseq
  obtain ⟨t, hstep, hblk⟩ := step_sameSequencing_microStep hrst
  rw [microStep_of_rfHiz _ _ _ hseq] at hblk
  exact ⟨t, hstep, hblk⟩

/-- Settles O21: the tick's twelve fields are the micro-step's, and that is `RF_EN`. -/
theorem rfEnAssertsDriveEnable : Obligations.RfEnAssertsDriveEnable := by
  unfold Obligations.RfEnAssertsDriveEnable
  intro s hrst hseq
  obtain ⟨t, hstep, hblk⟩ := step_sameSequencing_microStep hrst
  rw [microStep_of_rfEn _ _ _ hseq] at hblk
  exact ⟨t, hstep, hblk⟩

/-- Settles O22: the tick's twelve fields are the micro-step's, and that is `RM_DIS`. -/
theorem rmDisDeassertsDriveEnable : Obligations.RmDisDeassertsDriveEnable := by
  unfold Obligations.RmDisDeassertsDriveEnable
  intro s hrst hseq
  obtain ⟨t, hstep, hblk⟩ := step_sameSequencing_microStep hrst
  rw [microStep_of_rmDis _ _ _ hseq] at hblk
  exact ⟨t, hstep, hblk⟩

end Sys2Proof.Machine
end

section
/-! SUPPORT. The family `41_sequencer.md`: the query `IS_PROG` (R130) and the three micro-steps that switch the
mode-select pins and the line (R122, R124, R126). -/

namespace Sys2Proof.Machine

/-! ### The query -/

/-- A tick whose request is a bare response is the tick without a command but for the answer (R84, R162). -/
theorem runTick_respond (s : State) (code : RspCode) (data : Data) :
    runTick s (Request.respond code data) = { quietTick s with
      out := { rspValid := true, rspCode := code, rspData := data, monEvt := (quietTick s).out.monEvt } } := rfl

/-- The 16-bit answer that carries the done sample (R64, R85, R130). -/
theorem zextBit_doneSample (p : Params) (l : Bool) :
    zextBit (doneSample p l) = if l = p.doneTrueLevel then 0x0001#16 else 0x0000#16 := by
  simp only [zextBit_eq, doneSample_eq_true]

/-- Settles O9: the request of `IS_PROG` is a bare response, and its data is the tick's done sample. -/
theorem isProgReportsTheInput : Obligations.IsProgReportsTheInput := by
  unfold Obligations.IsProgReportsTheInput
  refine ⟨rfl, fun s => ?_⟩
  rw [exec_eq_runTick, requestOf, runTick_respond, zextBit_doneSample, rspOk]

/-! ### The writes of the micro-steps; none reads the sample or the start request -/

/-- R122. -/
theorem microStep_of_sqMode (p : Params) (d : Bool) (start : Option Operation) {b : Block} (hseq : b.seq = .sqMode) :
    microStep p d start b = { b with modeSet := true, seq := .rfHiz } := by
  rw [microStep, hseq]; rfl

/-- R124. -/
theorem microStep_of_sqOut (p : Params) (d : Bool) (start : Option Operation) {b : Block} (hseq : b.seq = .sqOut) :
    microStep p d start b =
      { b with progOe := true, progLvl := false, fpgaState := .inReset, timer := p.pulseTicks, seq := .sqLow } := by
  rw [microStep, hseq]; rfl

/-- R126. -/
theorem microStep_of_sqHigh (p : Params) (d : Bool) (start : Option Operation) {b : Block} (hseq : b.seq = .sqHigh) :
    microStep p d start b = { b with progLvl := true, fpgaState := .loading, pollCnt := 0, seq := .sqPoll } := by
  rw [microStep, hseq]; rfl

/-! ### The pins the sequencer drives: their levels, from fields of the arbiter and the sequencer only -/

theorem modeSelPin_of_modeSet (p : Params) {b : Block} (h : b.modeSet = true) :
    (pins p b).modeSelPin = some p.modeSelSpiValue := by
  simp [pins, h]

theorem progPin_of_progOe (p : Params) {b : Block} (h : b.progOe = true) : (pins p b).progPin = some b.progLvl :=
  (progPin_spec b).1 h

theorem sameSequencing_modeSelPin {a b : Block} (p : Params) (h : SameSequencing a b) :
    (pins p a).modeSelPin = (pins p b).modeSelPin :=
  sameSequencing_field (fun c => (pins p c).modeSelPin) (fun _ => rfl) h

theorem sameSequencing_progPin {a b : Block} (p : Params) (h : SameSequencing a b) :
    (pins p a).progPin = (pins p b).progPin :=
  sameSequencing_field (fun c => (pins p c).progPin) (fun _ => rfl) h

/-! ### The statements -/

/-- Settles O25: the tick's twelve fields are those of `SQ_MODE`, and with `mode_set` 1 the pins carry their value. -/
theorem sqModeDrivesModeSelect : Obligations.SqModeDrivesModeSelect := by
  unfold Obligations.SqModeDrivesModeSelect
  intro s hrst hseq
  obtain ⟨t, hstep, hblk⟩ := step_sameSequencing_microStep hrst
  rw [microStep_of_sqMode _ _ _ hseq] at hblk
  refine ⟨t, hstep, hblk, ?_⟩
  rw [sameSequencing_modeSelPin _ hblk]
  exact modeSelPin_of_modeSet _ rfl

/-- Settles O26: the tick's twelve fields are those of `SQ_OUT`, which makes the line an output and low at once. -/
theorem sqOutDrivesTheLineLow : Obligations.SqOutDrivesTheLineLow := by
  unfold Obligations.SqOutDrivesTheLineLow
  intro s hrst hseq
  obtain ⟨t, hstep, hblk⟩ := step_sameSequencing_microStep hrst
  rw [microStep_of_sqOut _ _ _ hseq] at hblk
  refine ⟨t, hstep, hblk, ?_⟩
  rw [sameSequencing_progPin _ hblk]
  exact progPin_of_progOe _ rfl

/-- Settles O27: the tick's twelve fields are those of `SQ_HIGH`. -/
theorem sqHighReleasesReset : Obligations.SqHighReleasesReset := by
  unfold Obligations.SqHighReleasesReset
  intro s hrst hseq
  obtain ⟨t, hstep, hblk⟩ := step_sameSequencing_microStep hrst
  rw [microStep_of_sqHigh _ _ _ hseq] at hblk
  exact ⟨t, hstep, hblk⟩

end Sys2Proof.Machine
end

section
/-! SUPPORT. The family `42_monitor.md`: the query `RD_LATCH` (R144), and what every tick without reset does on the
monitor's side of the block (R141). -/

namespace Sys2Proof.Machine

/-! ### The query -/

/-- Settles O10: the request of `RD_LATCH` is a bare response, and its data is the pre-state's latch. -/
theorem rdLatchReadsWithoutClearing : Obligations.RdLatchReadsWithoutClearing := by
  unfold Obligations.RdLatchReadsWithoutClearing
  refine ⟨rfl, fun s => ?_⟩
  rw [exec_eq_runTick, requestOf, runTick_respond, zextBit_eq, rspOk]

/-! ### The monitor's side of a tick -/

/-- Without an edge the merge is a plain clear (R68). -/
theorem mergeLatch_noEdge (clr latch : Bool) : mergeLatch false clr latch = (latch && !clr) := by
  cases clr with
  | false => rw [mergeLatch_keep, Bool.not_false, Bool.and_true]
  | true => rw [mergeLatch_clear, Bool.not_true, Bool.and_false]

/-- All that a tick without reset does on the monitor's side: the micro-step has no part in it, and a command reaches it
through the clear and the arm request alone (R68, R141, R143, R145, R146). -/
theorem step_monitor_side {s : State} (hrst : s.ports.rst = false) :
    ∃ t, step s = .next t ∧ t.out.monEvt = fallingEdge s.blk s.ports.doneIn ∧ t.blk.donePrev = s.ports.doneIn ∧
      t.blk.doneLatch = mergeLatch (fallingEdge s.blk s.ports.doneIn)
        (presents s.ports .clrLatch || presents s.ports .takeLatch) s.blk.doneLatch ∧
      t.blk.armed = (presents s.ports .arm || s.blk.armed) := by
  refine ⟨_, step_run s hrst, rfl, rfl, ?latch, ?armed⟩
  case latch => rw [advance_blk, runTick_blk, nextBlock_eq, portRequest_clr s hrst]
  case armed => rw [advance_blk, runTick_blk, nextBlock_eq, portRequest_arm s hrst]

/-- Settles O19: the tick's event is the pre-state's falling edge; the latch merge sets on an edge, and without one only
the clear request of `CLR_LATCH` or `TAKE_LATCH` takes the latch away. -/
theorem fallingEdgeSetsTheLatch : Obligations.FallingEdgeSetsTheLatch := by
  unfold Obligations.FallingEdgeSetsTheLatch
  intro s hrst
  obtain ⟨t, hstep, hevent, hprev, hlatch, harmed⟩ := step_monitor_side hrst
  rw [← hevent] at hlatch
  refine ⟨t, hstep, ?event, hprev, fun hedge => ?set, fun hquiet => ?keep, ?armed⟩
  case event => rw [hevent, fallingEdge_eq_true]
  case set => rw [hlatch, hedge, mergeLatch_edge]
  case keep => rw [hlatch, hquiet, mergeLatch_noEdge, Bool.not_or, Bool.and_assoc]
  case armed => rw [harmed, Bool.or_comm]

end Sys2Proof.Machine
end

section
/-! SUPPORT. The family `43_system.md`: the tick without a command (R162), `NOP` (R160), and what a blocking command
does when it is presented to an idle and to a busy block (R164). -/

namespace Sys2Proof.Machine

/-! ### An idle block -/

/-- An idle block performs its start request and nothing else (R164, R167). -/
theorem microStep_of_idle (p : Params) (d : Bool) (start : Option Operation) {b : Block} (hseq : b.seq = .idle) :
    microStep p d start b = startOperation start b := by
  rw [microStep, hseq]

/-- The writes of an accepted command and the monitor's writes of the same tick do not meet (R68, R150): the tick is that
of no command with the acceptance writes on top. -/
theorem nextBlock_start_of_idle (p : Params) (l : Bool) (op : Operation) (code : RspCode) (data : Data) {b : Block}
    (hseq : b.seq = .idle) :
    nextBlock p b l { Request.respond code data with start := some op } =
      startOperation (some op) (nextBlock p b l Request.quiet) := by
  simp only [nextBlock_eq, microStep_of_idle _ _ _ hseq]
  cases op with
  | relFpga | relMcu | rstProg => rfl

/-- Without a start request an idle block keeps all that the arbiter and the sequencer own (R76, R167). -/
theorem nextBlock_quiet_sequencing_of_idle (p : Params) (l : Bool) {b : Block} (hseq : b.seq = .idle) :
    SameSequencing (nextBlock p b l Request.quiet) b := by
  rw [SameSequencing, nextBlock_sequencing, microStep_of_idle _ _ _ hseq]
  rfl

/-! ### `NOP` and the tick without a command -/

/-- `NOP` is the tick without a command but for its answer (R160). -/
theorem exec_nop (s : State) : exec .nop s = .next { quietTick s with
    out := { rspValid := true, rspCode := 0#2, rspData := 0#16, monEvt := (quietTick s).out.monEvt } } := by
  rw [exec_eq_runTick, requestOf, runTick_respond, rspOk]

/-- A step with neither a reset nor a command (R162, R170). -/
theorem step_quiet {s : State} (hrst : s.ports.rst = false) (hvalid : s.ports.cmdValid = false) :
    step s = .next (advance (quietTick s)) := by
  rw [step_run s hrst, portRequest, hvalid]
  rfl

/-- The tick without a command does not read the word on `cmd`, and no later tick sees it (R74, R162). -/
theorem advance_quietTick_ignores_cmd (s : State) (c : Cmd) :
    advance (quietTick { s with ports := { s.ports with cmd := c } }) = advance (quietTick s) := rfl

/-- Without a clear request the merge only sets (R68, R71). -/
theorem mergeLatch_noClear (edge latch : Bool) : mergeLatch edge false latch = (edge || latch) := by
  cases edge with
  | false => rw [mergeLatch_keep, Bool.false_or]
  | true => rw [mergeLatch_edge, Bool.true_or]

/-- The monitor's side of a tick without a command (R141, R162). -/
theorem nextBlock_quiet_monitor_side (p : Params) (b : Block) (l : Bool) :
    (nextBlock p b l Request.quiet).armed = b.armed ∧
    (nextBlock p b l Request.quiet).doneLatch = (fallingEdge b l || b.doneLatch) := by
  rw [nextBlock_eq]
  exact ⟨Bool.false_or _, mergeLatch_noClear _ _⟩

/-! ### A blocking command -/

/-- An idle block accepts a blocking command, and the tick's only part in the operation is the writes of its rule
(R100, R106, R120, R164). -/
theorem exec_of_blocking_idle {s : State} {i : Instr} {op : Operation}
    (hreq : requestOf s i = Request.blocking s.blk op) (hidle : s.blk.seq = .idle) :
    exec i s = .next { quietTick s with
      blk := startOperation (some op) (quietTick s).blk
      out := { rspValid := true, rspCode := 0#2, rspData := 0x0000#16, monEvt := (quietTick s).out.monEvt } } := by
  obtain ⟨haccept, -⟩ := blocking_spec s.blk op
  rw [exec_eq_runTick, hreq, haccept hidle, runTick, nextBlock_start_of_idle _ _ _ _ _ hidle]
  rfl

/-- A busy block rejects a blocking command and goes on as without one (R164, R181). -/
theorem exec_of_blocking_busy {s : State} {i : Instr} (hclass : classOf i = .blocking) (hbusy : s.blk.seq ≠ .idle) :
    exec i s = .next { quietTick s with
      out := { rspValid := true, rspCode := 1#2, rspData := 0x0000#16, monEvt := (quietTick s).out.monEvt } } := by
  obtain ⟨op, hreq⟩ := requestOf_of_blocking s hclass
  obtain ⟨-, hreject⟩ := blocking_spec s.blk op
  rw [exec_eq_runTick, hreq, hreject hbusy, runTick_respond, rspRejected]

theorem classOf_eq_blocking_of_mem {i : Instr} (h : i ∈ [Instr.relFpga, Instr.relMcu, Instr.rstProg]) :
    classOf i = .blocking := by
  simp only [List.mem_cons, List.not_mem_nil, or_false] at h
  obtain rfl | rfl | rfl := h <;> rfl

/-! ### The statements -/

/-- Settles O5: both steps are the one tick without a command, whose block is that of `NOP`; its request arms, clears and
starts nothing. -/
theorem quietTickPerformsNoCommand : Obligations.QuietTickPerformsNoCommand := by
  unfold Obligations.QuietTickPerformsNoCommand
  intro s u c hrst hvalid hnop
  obtain rfl := Host.Outcome.next.inj ((exec_nop s).symm.trans hnop)
  obtain ⟨harmed, hlatch⟩ := nextBlock_quiet_monitor_side s.params s.blk s.ports.doneIn
  refine ⟨advance (quietTick s), step_quiet hrst hvalid, ?ignored, rfl, rfl, harmed, hlatch, fun hidle => ?starts⟩
  case ignored =>
    rw [← advance_quietTick_ignores_cmd s c]
    exact step_quiet hrst hvalid
  case starts => exact nextBlock_quiet_sequencing_of_idle _ _ hidle

/-- Settles O8: the word 0x0 is `NOP`, and its request is a bare response. -/
theorem nopOnlyResponds : Obligations.NopOnlyResponds := by
  unfold Obligations.NopOnlyResponds
  exact ⟨rfl, exec_nop⟩

/-- Settles O15: an idle block accepts each of the three operations with the writes of its start; a busy one rejects every
command of the class. -/
theorem blockingAcceptedWhenIdleRejectedWhenBusy : Obligations.BlockingAcceptedWhenIdleRejectedWhenBusy := by
  unfold Obligations.BlockingAcceptedWhenIdleRejectedWhenBusy
  refine ⟨fun s hidle => ⟨?relFpga, ?relMcu, ?rstProg⟩, fun s i hmem hbusy => ?busy⟩
  case relFpga => exact exec_of_blocking_idle (op := .relFpga) rfl hidle
  case relMcu => exact exec_of_blocking_idle (op := .relMcu) rfl hidle
  case rstProg => exact exec_of_blocking_idle (op := .rstProg) rfl hidle
  case busy => exact exec_of_blocking_busy (classOf_eq_blocking_of_mem hmem) hbusy

end Sys2Proof.Machine
end

section
/-! SUPPORT. The family `60_exceptions.md`: the answer `ILLEGAL` of the six reserved code points (R182). -/

namespace Sys2Proof.Machine

/-- A command of the reserved class is the tick without a command but for its answer `ILLEGAL` (R86, R182). -/
theorem exec_of_reserved (s : State) {i : Instr} (hclass : classOf i = .reserved) :
    exec i s = .next { quietTick s with
      out := { rspValid := true, rspCode := 2#2, rspData := 0x0000#16, monEvt := (quietTick s).out.monEvt } } := by
  rw [exec_eq_runTick, requestOf_of_reserved s hclass, runTick_respond, rspIllegal]

theorem classOf_eq_reserved_of_mem {i : Instr}
    (h : i ∈ [Instr.reservedA, Instr.reservedB, Instr.reservedC, Instr.reservedD, Instr.reservedE, Instr.reservedF]) :
    classOf i = .reserved := by
  simp only [List.mem_cons, List.not_mem_nil, or_false] at h
  obtain rfl | rfl | rfl | rfl | rfl | rfl := h <;> rfl

/-- Settles O16: the six commands are of the reserved class, and the request of that class is a bare `ILLEGAL`. -/
theorem reservedCommandsAnswerIllegal : Obligations.ReservedCommandsAnswerIllegal := by
  unfold Obligations.ReservedCommandsAnswerIllegal
  intro s i hmem
  exact exec_of_reserved s (classOf_eq_reserved_of_mem hmem)

end Sys2Proof.Machine
end

section
/-! SUPPORT. The safety invariant (R44 to R46): each start and each micro-step keeps a block safe, and so does every
step. Then the first sentence of R47, and the runs that rest on both. -/

namespace Sys2Proof.Machine

/-! ### What a step and a run can do -/

/-- All that a step does to the parameters, the inputs to come and the twelve fields of the arbiter and the sequencer: a
reset, or the micro-step of the pre-state (R68, R170, R200). -/
theorem step_inversion {s t : State} (h : step s = .next t) :
    t.params = s.params ∧ (∀ k, t.inputAt k = s.inputAt (k + 1)) ∧
    ((s.ports.rst = true ∧ t.blk = Block.reset) ∨
     (s.ports.rst = false ∧ SameSequencing t.blk
       (microStep s.params (doneSample s.params s.ports.doneIn) (portRequest s).start s.blk))) := by
  obtain ⟨hrst, rfl⟩ | ⟨hrst, rfl⟩ := step_cases s t h
  · exact ⟨rfl, fun k => by rw [inputAt_advance, inputAt_resetTick], .inl ⟨hrst, rfl⟩⟩
  · exact ⟨rfl, fun k => by rw [inputAt_advance, inputAt_runTick], .inr ⟨hrst, nextBlock_sequencing _ _ _ _⟩⟩

/-- From every state there is a next one (R170). -/
theorem step_next (s : State) : ∃ t, step s = .next t := by
  cases hrst : s.ports.rst with
  | true => exact ⟨_, step_reset s hrst⟩
  | false => exact ⟨_, step_run s hrst⟩

/-- A run never stops. -/
theorem ticks_next (n : Nat) (s : State) : ∃ t, ticks n s = .next t := by
  induction n generalizing s with
  | zero => exact ⟨s, rfl⟩
  | succ n ih =>
    obtain ⟨u, hstep⟩ := step_next s
    rw [ticks_succ n hstep]
    exact ih u

/-- What every step with inputs of the kind `A` keeps, a run with such inputs keeps. -/
theorem ticks_invariant {P : State → Prop} {A : Inputs → Prop}
    (hkeep : ∀ s t, P s → A s.ports → step s = .next t → P t) {n : Nat} {s t : State} (hs : P s)
    (hin : ∀ k, k < n → A (s.inputAt k)) (hrun : ticks n s = .next t) : P t := by
  induction n generalizing s with
  | zero => cases hrun; exact hs
  | succ n ih =>
    obtain ⟨u, hstep⟩ := step_next s
    obtain ⟨-, hinputs, -⟩ := step_inversion hstep
    rw [ticks_succ n hstep] at hrun
    refine ih (hkeep s u hs (hin 0 (by omega)) hstep) (fun k hk => ?_) hrun
    rw [hinputs]
    exact hin (k + 1) (by omega)

/-! ### The writes of the waits, of `RM_PINS` and of the poll -/

/-- R109. -/
theorem microStep_of_rmPins (p : Params) (d : Bool) (start : Option Operation) {b : Block} (hseq : b.seq = .rmPins) :
    microStep p d start b = { b with pinDrv := 0b1111#4, seq := .idle } := by
  rw [microStep, hseq]; rfl

/-- R104. -/
theorem microStep_of_rfSettle (p : Params) (d : Bool) (start : Option Operation) {b : Block}
    (hseq : b.seq = .rfSettle) : microStep p d start b = waitTick (if b.inRp then .sqOut else .idle) b := by
  rw [microStep, hseq]; rfl

/-- R108. -/
theorem microStep_of_rmSettle (p : Params) (d : Bool) (start : Option Operation) {b : Block}
    (hseq : b.seq = .rmSettle) : microStep p d start b = waitTick .rmPins b := by
  rw [microStep, hseq]; rfl

/-- R125. -/
theorem microStep_of_sqLow (p : Params) (d : Bool) (start : Option Operation) {b : Block} (hseq : b.seq = .sqLow) :
    microStep p d start b = waitTick .sqHigh b := by
  rw [microStep, hseq]; rfl

/-- R128. -/
theorem microStep_of_sqPoll (p : Params) (d : Bool) (start : Option Operation) {b : Block} (hseq : b.seq = .sqPoll) :
    microStep p d start b = if d then endRstProg { b with fpgaState := .programmed } else pollFailed p b := by
  rw [microStep, hseq]; rfl

/-! ### Safe blocks -/

/-- Safety speaks of the twelve fields only. -/
theorem safeBlock_of_sameSequencing {p : Params} {a b : Block} (h : SameSequencing a b) (hb : SafeBlock p b) :
    SafeBlock p a := by
  have hfield : SafeBlock p a = SafeBlock p b :=
    sameSequencing_field (SafeBlock p) (fun c => propext ⟨fun hc => { hc with }, fun hc => { hc with }⟩) h
  rwa [hfield]

/-- The three wait states, in which alone the timer runs (R31). -/
def isWait (q : Seq) : Bool := decide (q = .rfSettle ∨ q = .rmSettle ∨ q = .sqLow)

theorem isWait_eq_true (q : Seq) : isWait q = true ↔ q = .rfSettle ∨ q = .rmSettle ∨ q = .sqLow := by
  simp [isWait]

section
variable {p : Params} {b : Block}

theorem SafeBlock.timer_eq_zero (h : SafeBlock p b) (hq : isWait b.seq = false) : b.timer = 0 := by
  by_contra hne
  rw [(isWait_eq_true _).2 (h.timer_runs.1 hne)] at hq
  cases hq

theorem SafeBlock.pollCnt_eq_zero (h : SafeBlock p b) (hq : b.seq ≠ .sqPoll) : b.pollCnt = 0 := by
  by_contra hne
  exact hq (h.poll_only hne)

/-- The timer's clause of R46 (f) where no wait is. -/
theorem timer_stopped {t : Nat} {q : Seq} (ht : t = 0) (hq : isWait q = false) :
    t ≠ 0 ↔ q = .rfSettle ∨ q = .rmSettle ∨ q = .sqLow := by
  rw [← isWait_eq_true, hq, ht]
  exact ⟨fun hne => absurd rfl hne, nofun⟩

/-- The timer's clause of R46 (f) in a wait. -/
theorem timer_running {t : Nat} {q : Seq} (ht : 1 ≤ t) (hq : isWait q = true) :
    t ≠ 0 ↔ q = .rfSettle ∨ q = .rmSettle ∨ q = .sqLow :=
  ⟨fun _ => (isWait_eq_true q).1 hq, fun _ => Nat.one_le_iff_ne_zero.1 ht⟩

/-! ### Each start and each micro-step keeps a block safe: the clauses that speak of what it writes -/

theorem SafeBlock.startRelFpga (h : SafeBlock p b) (hq : b.seq = .idle) : SafeBlock p (startRelFpga b) := by
  obtain ⟨-, htimer, hpoll⟩ := h.idle_clean hq
  exact { h with
    idle_clean := nofun
    timer_runs := timer_stopped htimer rfl
    poll_only := fun hne => absurd hpoll hne
    flag_clear := nofun
    at_micro_step := nofun }

theorem SafeBlock.startRelMcu (h : SafeBlock p b) (hq : b.seq = .idle) : SafeBlock p (startRelMcu b) := by
  obtain ⟨hrp, htimer, hpoll⟩ := h.idle_clean hq
  exact { h with
    idle_clean := nofun
    timer_runs := timer_stopped htimer rfl
    poll_only := fun hne => absurd hpoll hne
    at_micro_step := hrp }

theorem SafeBlock.startRstProg (h : SafeBlock p b) (hq : b.seq = .idle) : SafeBlock p (startRstProg b) := by
  obtain ⟨-, htimer, hpoll⟩ := h.idle_clean hq
  exact { h with
    idle_clean := nofun
    timer_runs := timer_stopped htimer rfl
    timeout_finite := nofun
    poll_only := fun hne => absurd hpoll hne
    flag_clear := fun _ => rfl
    at_micro_step := rfl }

theorem SafeBlock.startOperation (h : SafeBlock p b) (hq : b.seq = .idle) (start : Option Operation) :
    SafeBlock p (startOperation start b) := by
  cases start with
  | none => exact h
  | some op =>
    cases op with
    | relFpga => exact h.startRelFpga hq
    | relMcu => exact h.startRelMcu hq
    | rstProg => exact h.startRstProg hq

theorem SafeBlock.microRfHiz (h : SafeBlock p b) (hq : b.seq = .rfHiz) : SafeBlock p (microRfHiz b) := by
  have hat := h.at_micro_step
  rw [AtMicroStep, hq] at hat
  have hpoll : b.pollCnt = 0 := h.pollCnt_eq_zero (by simp [hq])
  exact { h with
    no_contention := fun _ => rfl
    pins_together := .inl rfl
    idle_clean := nofun
    timer_runs := timer_stopped (h.timer_eq_zero (by rw [hq]; rfl)) rfl
    poll_only := fun hne => absurd hpoll hne
    at_micro_step := ⟨rfl, hat⟩ }

theorem SafeBlock.microRfEn (h : SafeBlock p b) (hp : p.wf = true) (hq : b.seq = .rfEn) :
    SafeBlock p (microRfEn p b) := by
  have hat := h.at_micro_step
  rw [AtMicroStep, hq] at hat
  obtain ⟨hpins, hmode⟩ := hat
  obtain ⟨hsettle, -⟩ := params_wf_spec hp
  have hpoll : b.pollCnt = 0 := h.pollCnt_eq_zero (by simp [hq])
  exact { h with
    owner_follows_signal := ⟨fun _ => rfl, fun _ => rfl⟩
    no_contention := fun _ => hpins
    idle_clean := nofun
    timer_runs := timer_running hsettle rfl
    timer_le := le_max_left _ _
    poll_only := fun hne => absurd hpoll hne
    at_micro_step := ⟨hpins, rfl, hmode⟩ }

theorem SafeBlock.microRmDis (h : SafeBlock p b) (hp : p.wf = true) (hq : b.seq = .rmDis) :
    SafeBlock p (microRmDis p b) := by
  have hat := h.at_micro_step
  rw [AtMicroStep, hq] at hat
  obtain ⟨hsettle, -⟩ := params_wf_spec hp
  have hpoll : b.pollCnt = 0 := h.pollCnt_eq_zero (by simp [hq])
  exact { h with
    owner_follows_signal := ⟨nofun, nofun⟩
    no_contention := nofun
    idle_clean := nofun
    timer_runs := timer_running hsettle rfl
    timer_le := le_max_left _ _
    poll_only := fun hne => absurd hpoll hne
    at_micro_step := ⟨rfl, hat⟩ }

theorem SafeBlock.microRmPins (h : SafeBlock p b) (hq : b.seq = .rmPins) : SafeBlock p (microRmPins b) := by
  have hat := h.at_micro_step
  rw [AtMicroStep, hq] at hat
  obtain ⟨hdrive, hrp⟩ := hat
  have htimer : b.timer = 0 := h.timer_eq_zero (by rw [hq]; rfl)
  have hpoll : b.pollCnt = 0 := h.pollCnt_eq_zero (by simp [hq])
  exact { h with
    no_contention := fun hd => absurd (hdrive.symm.trans hd) nofun
    pins_together := .inr rfl
    idle_clean := fun _ => ⟨hrp, htimer, hpoll⟩
    timer_runs := timer_stopped htimer rfl
    poll_only := fun hne => absurd hpoll hne
    at_micro_step := trivial }

theorem SafeBlock.microSqMode (h : SafeBlock p b) (hq : b.seq = .sqMode) : SafeBlock p (microSqMode b) := by
  have hpoll : b.pollCnt = 0 := h.pollCnt_eq_zero (by simp [hq])
  exact { h with
    out_of_reset := fun hs => ⟨rfl, (h.out_of_reset hs).2⟩
    idle_clean := nofun
    timer_runs := timer_stopped (h.timer_eq_zero (by rw [hq]; rfl)) rfl
    poll_only := fun hne => absurd hpoll hne
    at_micro_step := fun _ => rfl }

theorem SafeBlock.microSqOut (h : SafeBlock p b) (hp : p.wf = true) (hq : b.seq = .sqOut) :
    SafeBlock p (microSqOut p b) := by
  have hat := h.at_micro_step
  rw [AtMicroStep, hq] at hat
  obtain ⟨hrp, hdrive, hmode⟩ := hat
  obtain ⟨-, hpulse, -⟩ := params_wf_spec hp
  have hpoll : b.pollCnt = 0 := h.pollCnt_eq_zero (by simp [hq])
  exact { h with
    undriven_in_reset := fun _ => rfl
    low_iff_in_reset := fun _ => ⟨fun _ => rfl, fun _ => rfl⟩
    out_of_reset := fun hs => absurd rfl hs
    idle_clean := nofun
    timer_runs := timer_running hpulse rfl
    timer_le := le_max_right _ _
    poll_only := fun hne => absurd hpoll hne
    at_micro_step := ⟨hrp, hdrive, hmode, rfl, rfl⟩ }

theorem SafeBlock.microSqHigh (h : SafeBlock p b) (hp : p.wf = true) (hq : b.seq = .sqHigh) :
    SafeBlock p (microSqHigh b) := by
  have hat := h.at_micro_step
  rw [AtMicroStep, hq] at hat
  obtain ⟨hrp, hdrive, hmode, hoe, -⟩ := hat
  obtain ⟨-, -, htimeout, -⟩ := params_wf_spec hp
  exact { h with
    undriven_in_reset := fun ho => absurd (hoe.symm.trans ho) nofun
    low_iff_in_reset := fun _ => ⟨nofun, nofun⟩
    out_of_reset := fun _ => ⟨hmode, hoe⟩
    idle_clean := nofun
    timer_runs := timer_stopped (h.timer_eq_zero (by rw [hq]; rfl)) rfl
    poll_lt := htimeout
    poll_baseline := fun _ => rfl
    poll_only := fun hne => absurd rfl hne
    at_micro_step := ⟨hrp, hdrive, hmode, hoe, rfl, rfl⟩ }

/-- A wait state's tick: the count stays in the wait; its end goes on at a micro-step that may rely on what holds. -/
theorem SafeBlock.waitTick (h : SafeBlock p b) (hq : isWait b.seq = true) (after : Seq) (hafter : isWait after = false)
    (hidle : after = .idle → b.inRp = false) (hat : AtMicroStep { b with timer := 0, seq := after }) :
    SafeBlock p (waitTick after b) := by
  obtain ⟨hcount, hend⟩ := waitTick_spec after b
  have hpoll : b.pollCnt = 0 := h.pollCnt_eq_zero fun e => by rw [e] at hq; cases hq
  by_cases ht : 1 < b.timer
  case pos =>
    rw [hcount ht]
    have hbusy : b.seq ≠ .idle := fun e => by rw [e] at hq; cases hq
    exact { h with
      idle_clean := fun e => absurd e hbusy
      timer_runs := timer_running (Nat.le_sub_one_of_lt ht) hq
      timer_le := (Nat.sub_le _ _).trans h.timer_le }
  case neg =>
    rw [hend (by omega)]
    exact { h with
      idle_clean := fun e => ⟨hidle e, rfl, hpoll⟩
      timer_runs := timer_stopped rfl hafter
      timer_le := Nat.zero_le _
      poll_only := fun hne => absurd hpoll hne
      at_micro_step := hat }

theorem SafeBlock.rfSettle (h : SafeBlock p b) (hq : b.seq = .rfSettle) :
    SafeBlock p (Machine.waitTick (if b.inRp then .sqOut else .idle) b) := by
  have hat := h.at_micro_step
  rw [AtMicroStep, hq] at hat
  obtain ⟨-, hdrive, hmode⟩ := hat
  cases hrp : b.inRp with
  | true => exact h.waitTick (by rw [hq]; rfl) .sqOut rfl nofun ⟨hrp, hdrive, hmode hrp⟩
  | false => exact h.waitTick (by rw [hq]; rfl) .idle rfl (fun _ => hrp) trivial

theorem SafeBlock.rmSettle (h : SafeBlock p b) (hq : b.seq = .rmSettle) : SafeBlock p (Machine.waitTick .rmPins b) := by
  have hat := h.at_micro_step
  rw [AtMicroStep, hq] at hat
  exact h.waitTick (by rw [hq]; rfl) .rmPins rfl nofun hat

theorem SafeBlock.sqLow (h : SafeBlock p b) (hq : b.seq = .sqLow) : SafeBlock p (Machine.waitTick .sqHigh b) := by
  have hat := h.at_micro_step
  rw [AtMicroStep, hq] at hat
  exact h.waitTick (by rw [hq]; rfl) .sqHigh rfl nofun hat

/-- Both exits of the poll, for whichever field the exit writes first (R128). -/
theorem SafeBlock.endRstProg (h : SafeBlock p b) (hp : p.wf = true) (hq : b.seq = .sqPoll) :
    SafeBlock p (endRstProg { b with fpgaState := .programmed }) ∧
    (p.timeoutTicks ≠ none → SafeBlock p (endRstProg { b with cfgTimeout := true })) := by
  have hat := h.at_micro_step
  rw [AtMicroStep, hq] at hat
  obtain ⟨-, -, hmode, hoe, hlvl, -⟩ := hat
  obtain ⟨-, -, htimeout, -⟩ := params_wf_spec hp
  have htimer : b.timer = 0 := h.timer_eq_zero (by rw [hq]; rfl)
  constructor
  · exact { h with
      undriven_in_reset := fun ho => absurd (hoe.symm.trans ho) nofun
      low_iff_in_reset := fun _ => ⟨fun hl => absurd (hlvl.symm.trans hl) nofun, nofun⟩
      out_of_reset := fun _ => ⟨hmode, hoe⟩
      idle_clean := fun _ => ⟨rfl, htimer, rfl⟩
      timer_runs := timer_stopped htimer rfl
      poll_lt := htimeout
      poll_baseline := fun _ => rfl
      poll_only := fun hne => absurd rfl hne
      flag_clear := nofun
      at_micro_step := trivial }
  · intro hfinite
    exact { h with
      idle_clean := fun _ => ⟨rfl, htimer, rfl⟩
      timer_runs := timer_stopped htimer rfl
      timeout_finite := fun _ => hfinite
      poll_lt := htimeout
      poll_baseline := fun _ => rfl
      poll_only := fun hne => absurd rfl hne
      flag_clear := nofun
      at_micro_step := trivial }

theorem SafeBlock.pollFailed (h : SafeBlock p b) (hp : p.wf = true) (hq : b.seq = .sqPoll) :
    SafeBlock p (pollFailed p b) := by
  obtain ⟨hbaseline, htimeout, hcount⟩ := pollFailed_spec p b
  cases ht : p.timeoutTicks with
  | none => rw [hbaseline ht]; exact h
  | some n =>
    by_cases hn : n ≤ b.pollCnt + 1
    · rw [htimeout n ht hn]
      exact (h.endRstProg hp hq).2 (by simp [ht])
    · rw [hcount n ht (by omega)]
      have hbusy : b.seq ≠ .idle := by simp [hq]
      exact { h with
        idle_clean := fun e => absurd e hbusy
        poll_lt := fun m hm => by
          obtain rfl : n = m := Option.some.inj (ht.symm.trans hm)
          exact Nat.lt_of_not_le hn
        poll_baseline := fun e => absurd (ht.symm.trans e) nofun
        poll_only := fun _ => hq }

/-- Phase 4 of the tick keeps a block safe, whatever the sample and the start request are. -/
theorem SafeBlock.microStep (h : SafeBlock p b) (hp : p.wf = true) (d : Bool) (start : Option Operation) :
    SafeBlock p (microStep p d start b) := by
  cases hq : b.seq with
  | idle => rw [microStep_of_idle _ _ _ hq]; exact h.startOperation hq start
  | rfHiz => rw [microStep_of_rfHiz _ _ _ hq]; exact h.microRfHiz hq
  | rfEn => rw [microStep_of_rfEn _ _ _ hq]; exact h.microRfEn hp hq
  | rfSettle => rw [microStep_of_rfSettle _ _ _ hq]; exact h.rfSettle hq
  | rmDis => rw [microStep_of_rmDis _ _ _ hq]; exact h.microRmDis hp hq
  | rmSettle => rw [microStep_of_rmSettle _ _ _ hq]; exact h.rmSettle hq
  | rmPins => rw [microStep_of_rmPins _ _ _ hq]; exact h.microRmPins hq
  | sqMode => rw [microStep_of_sqMode _ _ _ hq]; exact h.microSqMode hq
  | sqOut => rw [microStep_of_sqOut _ _ _ hq]; exact h.microSqOut hp hq
  | sqLow => rw [microStep_of_sqLow _ _ _ hq]; exact h.sqLow hq
  | sqHigh => rw [microStep_of_sqHigh _ _ _ hq]; exact h.microSqHigh hp hq
  | sqPoll =>
    rw [microStep_of_sqPoll _ _ _ hq]
    cases d with
    | true => exact (h.endRstProg hp hq).1
    | false => exact h.pollFailed hp hq

end

/-! ### The invariant -/

/-- `RESET_STATE` is safe (R42). -/
theorem safeBlock_reset {p : Params} (hp : p.wf = true) : SafeBlock p Block.reset := by
  obtain ⟨-, -, htimeout, -⟩ := params_wf_spec hp
  exact {
    owner_follows_signal := ⟨nofun, nofun⟩
    no_contention := nofun
    pins_together := .inl rfl
    undriven_in_reset := fun _ => rfl
    low_iff_in_reset := nofun
    out_of_reset := fun hs => absurd rfl hs
    idle_clean := fun _ => ⟨rfl, rfl, rfl⟩
    timer_runs := timer_stopped rfl rfl
    timeout_finite := nofun
    timer_le := Nat.zero_le _
    poll_lt := htimeout
    poll_baseline := fun _ => rfl
    poll_only := fun hne => absurd rfl hne
    flag_clear := nofun
    at_micro_step := trivial }

/-- Settles O31. -/
theorem resetStateIsSafe : Obligations.ResetStateIsSafe := by
  unfold Obligations.ResetStateIsSafe
  intro p hp
  exact safeBlock_reset hp

/-- A reset gives `RESET_STATE`; any other step gives the twelve fields what the micro-step gives them. -/
theorem step_keeps_safeBlock {s t : State} (hp : s.params.wf = true) (hsafe : SafeBlock s.params s.blk)
    (hstep : step s = .next t) : SafeBlock s.params t.blk := by
  obtain ⟨-, -, ⟨-, hreset⟩ | ⟨-, hmicro⟩⟩ := step_inversion hstep
  · rw [hreset]; exact safeBlock_reset hp
  · exact safeBlock_of_sameSequencing hmicro (hsafe.microStep hp _ _)

/-- Settles O32. -/
theorem stepKeepsTheBlockSafe : Obligations.StepKeepsTheBlockSafe := by
  unfold Obligations.StepKeepsTheBlockSafe
  intro s t hp hsafe hstep
  obtain ⟨hparams, -⟩ := step_inversion hstep
  rw [hparams]
  exact step_keeps_safeBlock hp hsafe hstep

/-- The counters of a safe block fit a gate-level build's `TIMER_WIDTH` (R11, R31, R32). -/
theorem SafeBlock.counters_fit {p : Params} {b : Block} (h : SafeBlock p b) (hp : p.wf = true) :
    b.timer < 2 ^ p.timerWidth ∧ b.pollCnt < 2 ^ p.timerWidth := by
  obtain ⟨-, -, -, hwidth, -⟩ := params_wf_spec hp
  refine ⟨(h.timer_le.trans (le_max_left _ _)).trans_lt hwidth, lt_of_le_of_lt ?_ hwidth⟩
  have hpoll : b.pollCnt ≤ p.timeoutTicks.getD 0 := by
    cases ht : p.timeoutTicks with
    | none => exact (h.poll_baseline ht).le
    | some n => exact (h.poll_lt n ht).le
  exact hpoll.trans (le_max_right _ _)

/-- Settles O33: a run from `RESET_STATE` keeps the invariant, and the statement lists its clauses. -/
theorem runsFromResetStateStaySafe : Obligations.RunsFromResetStateStaySafe := by
  unfold Obligations.RunsFromResetStateStaySafe
  intro n s hp hreset
  obtain ⟨t, hrun⟩ := ticks_next n s
  have hkeep (u v : State) (hu : u.params = s.params ∧ SafeBlock s.params u.blk) (hstep : step u = .next v) :
      v.params = s.params ∧ SafeBlock s.params v.blk := by
    obtain ⟨hparams, hsafe⟩ := hu
    rw [← hparams] at hp hsafe ⊢
    exact ⟨(step_inversion hstep).1, step_keeps_safeBlock hp hsafe hstep⟩
  have hstart : s.params = s.params ∧ SafeBlock s.params s.blk := ⟨rfl, hreset ▸ safeBlock_reset hp⟩
  obtain ⟨-, h⟩ := ticks_invariant (A := fun _ => True) (fun u v hu _ => hkeep u v hu) hstart
    (fun _ _ => trivial) hrun
  exact ⟨t, hrun, h.owner_follows_signal, h.no_contention, h.pins_together, h.undriven_in_reset, h.low_iff_in_reset,
    h.out_of_reset, h.idle_clean, h.timer_runs, h.timeout_finite, h.counters_fit hp⟩

/-! ### The driver is the owner -/

/-- R47 speaks of the twelve fields only. -/
theorem driverIsOwner_of_sameSequencing {a b : Block} (h : SameSequencing a b) (hb : DriverIsOwner b) :
    DriverIsOwner a := by
  have hfield : DriverIsOwner a = DriverIsOwner b := sameSequencing_field DriverIsOwner (fun _ => rfl) h
  rwa [hfield]

/-- The operation is not over, or it has left the bus to its driver. -/
def BusyOrDriverIsOwner (b : Block) : Prop := b.seq ≠ .idle ∨ DriverIsOwner b

section
variable {p : Params} {b : Block}

/-- Where drive-enable is asserted, the FPGA drives and owns. -/
theorem SafeBlock.driverIsOwner_of_driveEn (h : SafeBlock p b) (hd : b.driveEn = true) : DriverIsOwner b := by
  have howner : b.owner = .fpga := h.owner_follows_signal.2 hd
  have hpins : b.pinDrv = 0b0000#4 := h.no_contention hd
  simp [DriverIsOwner, howner, hpins]

/-- Where drive-enable is de-asserted and the pins drive, the MCU drives and owns. -/
theorem SafeBlock.driverIsOwner_of_pins (h : SafeBlock p b) (hd : b.driveEn = false) (hpins : b.pinDrv = 0b1111#4) :
    DriverIsOwner b := by
  have howner : b.owner = .mcu := by
    cases ho : b.owner with
    | mcu => rfl
    | fpga => exact absurd (hd.symm.trans (h.owner_follows_signal.1 ho)) nofun
  simp [DriverIsOwner, howner, hpins]

/-- `AtMicroStep` says that drive-enable is asserted in the wait that ends `REL_FPGA` and in the poll that ends
`RST_PROG`, and not asserted in `RM_PINS`. -/
theorem SafeBlock.driveEn_at_last (h : SafeBlock p b) :
    (b.seq = .rfSettle → b.driveEn = true) ∧ (b.seq = .sqPoll → b.driveEn = true) ∧
    (b.seq = .rmPins → b.driveEn = false) := by
  have hat := h.at_micro_step
  refine ⟨fun hq => ?_, fun hq => ?_, fun hq => ?_⟩ <;> rw [AtMicroStep, hq] at hat
  · obtain ⟨-, hdrive, -⟩ := hat
    exact hdrive
  · obtain ⟨-, hdrive, -⟩ := hat
    exact hdrive
  · obtain ⟨hdrive, -⟩ := hat
    exact hdrive

theorem waitTick_driveEn (after : Seq) (b : Block) : (waitTick after b).driveEn = b.driveEn := by
  unfold waitTick; split <;> rfl

theorem waitTick_busy {after : Seq} (b : Block) (ha : after ≠ .idle) (hq : b.seq ≠ .idle) :
    (waitTick after b).seq ≠ .idle := by
  unfold waitTick; split
  · exact hq
  · exact ha

theorem pollFailed_driveEn (p : Params) (b : Block) : (pollFailed p b).driveEn = b.driveEn := by
  unfold pollFailed; split
  · rfl
  · split <;> rfl

/-- An accepted command makes the block busy (R164). -/
theorem startOperation_busy (op : Operation) (b : Block) : (startOperation (some op) b).seq ≠ .idle := by
  cases op <;> exact nofun

/-- A micro-step that ends an operation leaves drive-enable asserted, or the pins driving with it de-asserted; every
other one leaves the block busy (R47). -/
theorem SafeBlock.microStep_busyOrDriverIsOwner (h : SafeBlock p b) (hp : p.wf = true) (d : Bool)
    (start : Option Operation) (hb : BusyOrDriverIsOwner b) : BusyOrDriverIsOwner (Machine.microStep p d start b) := by
  have hnext : SafeBlock p (Machine.microStep p d start b) := h.microStep hp d start
  obtain ⟨hsettle, hpoll, hrm⟩ := h.driveEn_at_last
  cases hq : b.seq with
  | idle =>
    rw [microStep_of_idle _ _ _ hq]
    cases start with
    | none => exact hb
    | some op => exact .inl (startOperation_busy op b)
  | rfSettle =>
    refine .inr (hnext.driverIsOwner_of_driveEn ?_)
    rw [microStep_of_rfSettle _ _ _ hq, waitTick_driveEn, hsettle hq]
  | rmPins =>
    have hpins : (Machine.microStep p d start b).pinDrv = 0b1111#4 := by rw [microStep_of_rmPins _ _ _ hq]
    refine .inr (hnext.driverIsOwner_of_pins ?_ hpins)
    rw [microStep_of_rmPins _ _ _ hq, hrm hq]
  | sqPoll =>
    refine .inr (hnext.driverIsOwner_of_driveEn ?_)
    rw [microStep_of_sqPoll _ _ _ hq]
    cases d with
    | true => exact hpoll hq
    | false => exact (pollFailed_driveEn p b).trans (hpoll hq)
  | rmSettle =>
    rw [microStep_of_rmSettle _ _ _ hq]
    exact .inl (waitTick_busy b nofun (by simp [hq]))
  | sqLow =>
    rw [microStep_of_sqLow _ _ _ hq]
    exact .inl (waitTick_busy b nofun (by simp [hq]))
  | rfHiz | rfEn | rmDis | sqMode | sqOut | sqHigh => exact .inl (by simp [Machine.microStep, hq])

end

/-- The step form of R47. -/
theorem step_keeps_busyOrDriverIsOwner {s t : State} (hp : s.params.wf = true) (hsafe : SafeBlock s.params s.blk)
    (hb : BusyOrDriverIsOwner s.blk) (hrst : s.ports.rst = false) (hstep : step s = .next t) :
    BusyOrDriverIsOwner t.blk := by
  obtain ⟨-, -, ⟨hreset, -⟩ | ⟨-, hmicro⟩⟩ := step_inversion hstep
  · exact absurd (hrst.symm.trans hreset) nofun
  · have hseq : t.blk.seq = _ := sameSequencing_field Block.seq (fun _ => rfl) hmicro
    obtain hbusy | howner := hsafe.microStep_busyOrDriverIsOwner hp _ _ hb
    · exact .inl (hseq ▸ hbusy)
    · exact .inr (driverIsOwner_of_sameSequencing hmicro howner)

/-- Settles O50. -/
theorem stepKeepsTheDriverAsOwner : Obligations.StepKeepsTheDriverAsOwner := by
  unfold Obligations.StepKeepsTheDriverAsOwner
  intro s t hp hsafe hb hrst hstep
  obtain ⟨hparams, -⟩ := step_inversion hstep
  rw [hparams]
  exact ⟨step_keeps_safeBlock hp hsafe hstep, step_keeps_busyOrDriverIsOwner hp hsafe hb hrst hstep⟩

/-- What the runs of R47 keep: admissible parameters, and a safe block that is busy or whose owner drives. -/
def SafeBusyOrDriverIsOwner (s : State) : Prop :=
  s.params.wf = true ∧ SafeBlock s.params s.blk ∧ BusyOrDriverIsOwner s.blk

theorem step_keeps_safeBusyOrDriverIsOwner (s t : State) (h : SafeBusyOrDriverIsOwner s) (hrst : s.ports.rst = false)
    (hstep : step s = .next t) : SafeBusyOrDriverIsOwner t := by
  obtain ⟨hp, hsafe, hb⟩ := h
  obtain ⟨hparams, -⟩ := step_inversion hstep
  rw [SafeBusyOrDriverIsOwner, hparams]
  exact ⟨hp, step_keeps_safeBlock hp hsafe hstep, step_keeps_busyOrDriverIsOwner hp hsafe hb hrst hstep⟩

/-- Settles O34: the run keeps what its first, busy block has, and an idle block of that kind has its owner driving. -/
theorem completedOperationLeavesDriverAsOwner : Obligations.CompletedOperationLeavesDriverAsOwner := by
  unfold Obligations.CompletedOperationLeavesDriverAsOwner
  intro n s t hp hsafe hbusy hnr hrun hidle
  obtain ⟨-, -, hb⟩ := ticks_invariant (A := fun i => i.rst = false) step_keeps_safeBusyOrDriverIsOwner
    ⟨hp, hsafe, .inl hbusy⟩ hnr hrun
  exact hb.resolve_left fun hne => hne hidle

/-! ### Before the first operation -/

/-- A step from an idle block to an idle block with the twelve fields of `RESET_STATE` keeps them: an accepted command
would have left the block busy (R164). -/
theorem step_keeps_reset_while_idle {s t : State} (hs : SameSequencing s.blk Block.reset) (hstep : step s = .next t)
    (hidle : t.blk.seq = .idle) : SameSequencing t.blk Block.reset := by
  obtain ⟨-, -, ⟨-, hreset⟩ | ⟨-, hmicro⟩⟩ := step_inversion hstep
  · rw [hreset]; rfl
  · have hq : s.blk.seq = .idle := sameSequencing_field Block.seq (fun _ => rfl) hs
    have hseq : t.blk.seq = _ := sameSequencing_field Block.seq (fun _ => rfl) hmicro
    rw [microStep_of_idle _ _ _ hq] at hmicro hseq
    cases hstart : (portRequest s).start with
    | none => rw [hstart] at hmicro; exact Eq.trans hmicro hs
    | some op => rw [hstart] at hseq; exact absurd (hseq.symm.trans hidle) (startOperation_busy op s.blk)

/-- Settles O51: as long as every state is idle, the twelve fields stay those of `RESET_STATE`. -/
theorem nobodyDrivesBeforeTheFirstOperation : Obligations.NobodyDrivesBeforeTheFirstOperation := by
  unfold Obligations.NobodyDrivesBeforeTheFirstOperation
  intro n s hreset hidle
  have hstay : ∀ k, k ≤ n → ∃ t, ticks k s = .next t ∧ SameSequencing t.blk Block.reset := by
    intro k
    induction k with
    | zero => exact fun _ => ⟨s, rfl, by rw [hreset]; rfl⟩
    | succ k ih =>
      intro hk
      obtain ⟨t, hrun, hsame⟩ := ih (by omega)
      obtain ⟨u, hstep⟩ := step_next t
      have hrun' : ticks (k + 1) s = .next u := ticks_snoc hrun hstep
      obtain ⟨v, hv, hq⟩ := hidle (k + 1) hk
      obtain rfl : u = v := Host.Outcome.next.inj (hrun'.symm.trans hv)
      exact ⟨u, hrun', step_keeps_reset_while_idle hsame hstep hq⟩
  obtain ⟨t, hrun, hsame⟩ := hstay n le_rfl
  exact ⟨t, hrun, sameSequencing_field Block.owner (fun _ => rfl) hsame,
    sameSequencing_field Block.driveEn (fun _ => rfl) hsame, sameSequencing_field Block.pinDrv (fun _ => rfl) hsame⟩

end Sys2Proof.Machine
end

section
/-! SUPPORT. Which step writes what: the writers of the fields behind the pins (R23 to R29, R121, R132, R133), the latch
(R33, R70), and that the monitor's side reaches nothing else (R150). -/

namespace Sys2Proof.Machine

/-! ### The fields behind the pins -/

/-- `c` holds, in the seven fields behind the pins, what the micro-step of `b` with the done sample `d` leaves there:
the exact writers of each field. No start, no wait and no failed sample writes one (R23 to R29). -/
structure PinFieldsAfter (d : Bool) (b c : Block) : Prop where
  /-- R23 -/
  owner : c.owner = if b.seq = .rfEn then .fpga else if b.seq = .rmDis then .mcu else b.owner
  /-- R25 -/
  driveEn : c.driveEn = if b.seq = .rfEn then true else if b.seq = .rmDis then false else b.driveEn
  /-- R24 -/
  pinDrv : c.pinDrv = if b.seq = .rfHiz then 0b0000#4 else if b.seq = .rmPins then 0b1111#4 else b.pinDrv
  /-- R26 -/
  modeSet : c.modeSet = if b.seq = .sqMode then true else b.modeSet
  /-- R27 -/
  progOe : c.progOe = if b.seq = .sqOut then true else b.progOe
  /-- R28 -/
  progLvl : c.progLvl = if b.seq = .sqOut then false else if b.seq = .sqHigh then true else b.progLvl
  /-- R29 -/
  fpgaState : c.fpgaState =
    if b.seq = .sqOut then .inReset else if b.seq = .sqHigh then .loading
    else if b.seq = .sqPoll ∧ d = true then .programmed else b.fpgaState

theorem waitTick_pinFields (d : Bool) (after : Seq) {b : Block}
    (hq : b.seq = .rfSettle ∨ b.seq = .rmSettle ∨ b.seq = .sqLow) : PinFieldsAfter d b (waitTick after b) := by
  unfold waitTick
  obtain hq | hq | hq := hq
  all_goals split <;> constructor <;> simp [hq]

theorem microStep_pinFields (p : Params) (d : Bool) (start : Option Operation) (b : Block) :
    PinFieldsAfter d b (microStep p d start b) := by
  cases hq : b.seq with
  | idle =>
    rw [microStep_of_idle _ _ _ hq]
    unfold startOperation
    split <;> constructor <;> simp [hq]
  | rfSettle => rw [microStep_of_rfSettle _ _ _ hq]; exact waitTick_pinFields _ _ (.inl hq)
  | rmSettle => rw [microStep_of_rmSettle _ _ _ hq]; exact waitTick_pinFields _ _ (.inr (.inl hq))
  | sqLow => rw [microStep_of_sqLow _ _ _ hq]; exact waitTick_pinFields _ _ (.inr (.inr hq))
  | sqPoll =>
    rw [microStep_of_sqPoll _ _ _ hq]
    cases d with
    | true => constructor <;> simp [hq]
    | false =>
      rw [if_neg Bool.false_ne_true]
      unfold pollFailed
      split
      · constructor <;> simp [hq]
      · split <;> constructor <;> simp [hq]
  | rfHiz | rfEn | rmDis | rmPins | sqMode | sqOut | sqHigh => constructor <;> simp [microStep, hq]

/-- The same of a step without reset. -/
theorem step_pinFields {s t : State} (hrst : s.ports.rst = false) (hstep : step s = .next t) :
    PinFieldsAfter (doneSample s.params s.ports.doneIn) s.blk t.blk := by
  obtain ⟨-, -, ⟨hreset, -⟩ | ⟨-, hmicro⟩⟩ := step_inversion hstep
  · exact absurd (hrst.symm.trans hreset) nofun
  · rw [sameSequencing_field (PinFieldsAfter _ s.blk) (fun c => propext ⟨fun h => { h with }, fun h => { h with }⟩)
      hmicro]
    exact microStep_pinFields _ _ _ _

/-- Settles O35: a field that changed was written, and its writers are the two of its equation. -/
theorem arbiterFieldsHaveTheirWriters : Obligations.ArbiterFieldsHaveTheirWriters := by
  unfold Obligations.ArbiterFieldsHaveTheirWriters
  intro s t hrst hstep
  have h := step_pinFields hrst hstep
  rw [h.owner, h.driveEn, h.pinDrv]
  refine ⟨fun hne => ?_, fun hne => ?_, fun hne => ?_⟩
  · split_ifs at hne ⊢ with hen hdis
    · exact .inl ⟨hen, rfl⟩
    · exact .inr ⟨hdis, rfl⟩
    · exact absurd rfl hne
  · split_ifs at hne ⊢ with hen hdis
    · exact .inl ⟨hen, rfl⟩
    · exact .inr ⟨hdis, rfl⟩
    · exact absurd rfl hne
  · split_ifs at hne ⊢ with hhiz hpin
    · exact .inl ⟨hhiz, rfl⟩
    · exact .inr ⟨hpin, rfl⟩
    · exact absurd rfl hne

/-- Settles O52. -/
theorem modeSelectAndLineHaveTheirWriters : Obligations.ModeSelectAndLineHaveTheirWriters := by
  unfold Obligations.ModeSelectAndLineHaveTheirWriters
  intro s t hrst hstep
  have h := step_pinFields hrst hstep
  rw [h.modeSet, h.progOe, h.progLvl]
  refine ⟨?mode, ?direction, fun hout => if_pos hout, fun hhigh => ?high, fun hout hhigh => ?keep⟩
  case mode => split_ifs with hmode <;> simp [hmode]
  case direction => split_ifs with hout <;> simp [hout]
  case high => simp [hhigh]
  case keep => rw [if_neg hout, if_neg hhigh]

/-! ### The FPGA's state, the indicator and the line, over safe blocks -/

/-- What `SQ_HIGH` finds (R121). -/
theorem SafeBlock.at_sqHigh {p : Params} {b : Block} (h : SafeBlock p b) (hq : b.seq = .sqHigh) :
    b.owner = .fpga ∧ b.driveEn = true ∧ b.pinDrv = 0b0000#4 ∧ b.modeSet = true ∧ b.fpgaState = .inReset := by
  have hat := h.at_micro_step
  rw [AtMicroStep, hq] at hat
  obtain ⟨-, hdrive, hmode, hoe, hlow⟩ := hat
  exact ⟨h.owner_follows_signal.2 hdrive, hdrive, h.no_contention hdrive, hmode, (h.low_iff_in_reset hoe).1 hlow⟩

/-- What `SQ_POLL` finds (R133). -/
theorem SafeBlock.at_sqPoll {p : Params} {b : Block} (h : SafeBlock p b) (hq : b.seq = .sqPoll) :
    b.fpgaState = .loading := by
  have hat := h.at_micro_step
  rw [AtMicroStep, hq] at hat
  obtain ⟨-, -, -, -, -, hloading⟩ := hat
  exact hloading

/-- Everything a step from a safe block does to `fpga_state`: the four edges of R133's graph, or nothing. -/
theorem step_fpgaState_cases {s t : State} (hsafe : SafeBlock s.params s.blk) (hstep : step s = .next t) :
    (t.blk.fpgaState = .inReset ∧ (s.ports.rst = true ∨ s.ports.rst = false ∧ s.blk.seq = .sqOut)) ∨
    (s.blk.fpgaState = .inReset ∧ t.blk.fpgaState = .loading ∧ s.ports.rst = false ∧ s.blk.seq = .sqHigh) ∨
    (s.blk.fpgaState = .loading ∧ t.blk.fpgaState = .programmed ∧ s.ports.rst = false ∧ s.blk.seq = .sqPoll ∧
      s.ports.doneIn = s.params.doneTrueLevel) ∨
    (t.blk.fpgaState = s.blk.fpgaState ∧ s.ports.rst = false ∧ s.blk.seq ≠ .sqOut ∧ s.blk.seq ≠ .sqHigh ∧
      ¬ (s.blk.seq = .sqPoll ∧ s.ports.doneIn = s.params.doneTrueLevel)) := by
  obtain ⟨-, -, ⟨hrst, hreset⟩ | ⟨hrst, -⟩⟩ := step_inversion hstep
  · exact .inl ⟨by rw [hreset]; rfl, .inl hrst⟩
  have hfpga := (step_pinFields hrst hstep).fpgaState
  simp only [doneSample_eq_true] at hfpga
  split_ifs at hfpga with hout hhigh hpoll
  · exact .inl ⟨hfpga, .inr ⟨hrst, hout⟩⟩
  · obtain ⟨-, -, -, -, hin⟩ := hsafe.at_sqHigh hhigh
    exact .inr (.inl ⟨hin, hfpga, hrst, hhigh⟩)
  · obtain ⟨hq, hdone⟩ := hpoll
    exact .inr (.inr (.inl ⟨hsafe.at_sqPoll hq, hfpga, hrst, hq, hdone⟩))
  · exact .inr (.inr (.inr ⟨hfpga, hrst, hout, hhigh, hpoll⟩))

/-- Settles O37: three of the four kinds of step are the graph's edges, and the fourth changes nothing. -/
theorem fpgaStateNeverSkipsLoading : Obligations.FpgaStateNeverSkipsLoading := by
  unfold Obligations.FpgaStateNeverSkipsLoading
  intro s t _ hsafe hstep hne
  obtain ⟨hin, hcause⟩ | hload | hprog | ⟨hkept, -⟩ := step_fpgaState_cases hsafe hstep
  · exact .inl ⟨hin, hcause.imp_right fun ⟨_, hout⟩ => hout⟩
  · exact .inr (.inl hload)
  · exact .inr (.inr hprog)
  · exact absurd hkept hne

/-- A build with an indicator shows whether the FPGA is programmed (R132). -/
theorem indicator_spec {p : Params} (b : Block) (h : p.hasIndicator = true) :
    ((pins p b).indicator = some true ↔ b.fpgaState = .programmed) ∧
    ((pins p b).indicator = some false ↔ b.fpgaState ≠ .programmed) := by
  simp [pins, h, indicatorLevel]

/-- Settles O38: read at the four kinds of step, `Programmed` is entered by the successful sample alone, which finds
`Loading`, and left by `SQ_OUT` and reset alone. -/
theorem indicatorRisesOncePerSuccess : Obligations.IndicatorRisesOncePerSuccess := by
  unfold Obligations.IndicatorRisesOncePerSuccess
  intro s t _ hsafe hind hstep
  obtain ⟨hparams, -⟩ := step_inversion hstep
  obtain ⟨hs1, hs0⟩ := indicator_spec s.blk hind
  obtain ⟨ht1, ht0⟩ := indicator_spec t.blk hind
  rw [hparams, hs0, hs1, ht0, ht1]
  obtain ⟨hin, hcause⟩ | ⟨hin, hload, hrst, hq⟩ | ⟨hload, hprog, hrst, hq, hdone⟩ |
    ⟨hkept, hrst, hout, -, hpoll⟩ := step_fpgaState_cases hsafe hstep
  · obtain hrst | ⟨hrst, hq⟩ := hcause
    · simp [hin, hrst]
    · simp [hin, hrst, hq]
  · simp [hin, hload, hrst, hq]
  · simp [hload, hprog, hrst, hq, hdone]
  · simp [hkept, hrst, hout, hpoll]

theorem progPin_eq_some (b : Block) (l : Bool) : progPin b = some l ↔ b.progOe = true ∧ b.progLvl = l := by
  simp [progPin]

/-- Settles O39: `SQ_HIGH` is the one writer of a high level on a driven line, and it finds the bus at the FPGA. -/
theorem resetReleasedOnlyWithTheBusAtTheFpga : Obligations.ResetReleasedOnlyWithTheBusAtTheFpga := by
  unfold Obligations.ResetReleasedOnlyWithTheBusAtTheFpga
  intro s t _ hsafe hstep hlow hhigh
  obtain ⟨-, hslow⟩ := (progPin_eq_some s.blk false).1 hlow
  obtain ⟨htoe, hthigh⟩ := (progPin_eq_some t.blk true).1 hhigh
  obtain ⟨-, -, ⟨-, hreset⟩ | ⟨hrst, -⟩⟩ := step_inversion hstep
  · rw [hreset] at htoe; cases htoe
  have hfields := step_pinFields hrst hstep
  have hlvl := hfields.progLvl
  rw [hthigh] at hlvl
  split_ifs at hlvl with hout hq
  · obtain ⟨howner, hdrive, hpins, hmode, hin⟩ := hsafe.at_sqHigh hq
    exact ⟨hq, howner, hdrive, hpins, hmode, hin, by rw [hfields.fpgaState, if_neg hout, if_pos hq]⟩
  · exact absurd (hlvl.trans hslow) nofun

/-! ### The latch -/

/-- Settles O40: without a reset the latch is the merge of this tick's edge, which sets it, and the clear requests. -/
theorem latchIsNeverClearedAutomatically : Obligations.LatchIsNeverClearedAutomatically := by
  unfold Obligations.LatchIsNeverClearedAutomatically
  intro s t hstep hne
  obtain ⟨-, -, ⟨hrst, hreset⟩ | ⟨hrst, -⟩⟩ := step_inversion hstep
  · exact .inr ⟨by rw [hreset]; rfl, .inl hrst⟩
  obtain ⟨u, hu, hevent, -, hlatch, -⟩ := step_monitor_side hrst
  obtain rfl : t = u := Host.Outcome.next.inj (hstep.symm.trans hu)
  cases hedge : fallingEdge s.blk s.ports.doneIn with
  | true =>
    rw [hedge, mergeLatch_edge] at hlatch
    exact .inl ⟨hlatch, hevent.trans hedge, hrst, (fallingEdge_eq_true _ _).1 hedge⟩
  | false =>
    cases hclr : presents s.ports .clrLatch || presents s.ports .takeLatch with
    | true =>
      rw [hedge, hclr, mergeLatch_clear] at hlatch
      exact .inr ⟨hlatch, .inr ((Bool.or_eq_true _ _).mp hclr)⟩
    | false =>
      rw [hedge, hclr, mergeLatch_keep] at hlatch
      exact absurd hlatch hne

/-- The inputs of a tick that takes nothing from the latch. -/
def NoClear (i : Inputs) : Prop :=
  i.rst = false ∧ presents i .clrLatch = false ∧ presents i .takeLatch = false

theorem step_keeps_doneLatch (s t : State) (hlatch : s.blk.doneLatch = true) (hin : NoClear s.ports)
    (hstep : step s = .next t) : t.blk.doneLatch = true := by
  obtain ⟨hrst, hclr, htake⟩ := hin
  obtain ⟨u, hu, -, -, hmerge, -⟩ := step_monitor_side hrst
  obtain rfl : t = u := Host.Outcome.next.inj (hstep.symm.trans hu)
  rw [hmerge, hclr, htake, Bool.or_false, mergeLatch_noClear, hlatch, Bool.or_true]

/-- Settles O48: the edge's own tick sets the latch over any clear, and the ticks after it keep it. -/
theorem edgeIsNeverLostToAClear : Obligations.EdgeIsNeverLostToAClear := by
  unfold Obligations.EdgeIsNeverLostToAClear
  intro n s harmed hprev hlow hnr hnoclr
  have hedge : fallingEdge s.blk s.ports.doneIn = true := (fallingEdge_eq_true _ _).2 ⟨harmed, hprev, hlow⟩
  obtain ⟨u, hstep, -, -, hmerge, -⟩ := step_monitor_side (hnr 0 (by omega))
  obtain ⟨-, hinputs, -⟩ := step_inversion hstep
  have hset : u.blk.doneLatch = true := by rw [hmerge, hedge, mergeLatch_edge]
  have hquiet (k : Nat) (hk : k < n) : NoClear (u.inputAt k) := by
    rw [hinputs]
    exact ⟨hnr (k + 1) (by omega), hnoclr (k + 1) (by omega) (by omega)⟩
  obtain ⟨t, hrun⟩ := ticks_next n u
  have hlatch : t.blk.doneLatch = true :=
    ticks_invariant (P := fun v => v.blk.doneLatch = true) step_keeps_doneLatch hset hquiet hrun
  have hread : zextBit t.blk.doneLatch = 0x0001#16 := by rw [hlatch]; rfl
  refine ⟨t, (ticks_succ n hstep).trans hrun, hlatch, ?rdLatch, ?takeLatch, ?status⟩
  case rdLatch => exact ⟨_, exec_eq_runTick .rdLatch t, hread⟩
  case takeLatch => exact ⟨_, exec_eq_runTick .takeLatch t, hread⟩
  case status =>
    obtain ⟨-, -, -, -, -, -, hbit, -⟩ := statusWord_field t.blk (doneSample t.params t.ports.doneIn)
    exact ⟨_, exec_status t, hbit.trans hlatch⟩

/-! ### The monitor's side influences nothing else -/

/-- The operation that a tick's inputs ask an idle block to start (R164). -/
def startAsked (i : Inputs) : Option Operation := if i.cmdValid then operationOf (decodeCmd i.cmd) else none

theorem portRequest_start_eq_startAsked {s : State} (h : s.blk.seq = .idle) :
    (portRequest s).start = startAsked s.ports := portRequest_start_idle s h

theorem operationOf_monitorCommand {i : Instr} (h : isMonitorCommand i = true) : operationOf i = none := by
  cases i with
  | arm | rdLatch | clrLatch | takeLatch => rfl
  | _ => cases h

/-- Erasing a monitor command leaves all that the arbiter and the sequencer read of a tick's inputs (R150). -/
theorem eraseMonitorCommand_spec (i : Inputs) :
    (eraseMonitorCommand i).rst = i.rst ∧ (eraseMonitorCommand i).doneIn = i.doneIn ∧
    startAsked (eraseMonitorCommand i) = startAsked i := by
  unfold eraseMonitorCommand
  split
  · next h =>
    obtain ⟨hvalid, hmonitor⟩ := (Bool.and_eq_true _ _).mp h
    refine ⟨rfl, rfl, ?_⟩
    simp only [startAsked, hvalid, operationOf_monitorCommand hmonitor]
    rfl
  · exact ⟨rfl, rfl, rfl⟩

/-- Blocks that agree on the twelve fields, and inputs that agree but for monitor commands, agree on the twelve fields
after the tick (R76, R150). -/
theorem step_keeps_sameSequencing {s s' t t' : State} (hparams : s.params = s'.params)
    (hsame : SameSequencing s.blk s'.blk) (hin : eraseMonitorCommand s.ports = eraseMonitorCommand s'.ports)
    (hstep : step s = .next t) (hstep' : step s' = .next t') : SameSequencing t.blk t'.blk := by
  obtain ⟨hrst, hdone, hstart⟩ := eraseMonitorCommand_spec s.ports
  rw [hin] at hrst hdone hstart
  obtain ⟨hrst', hdone', hstart'⟩ := eraseMonitorCommand_spec s'.ports
  have hr : s.ports.rst = s'.ports.rst := hrst.symm.trans hrst'
  obtain ⟨-, -, ⟨h1, hreset⟩ | ⟨h1, hmicro⟩⟩ := step_inversion hstep <;>
    obtain ⟨-, -, ⟨h2, hreset'⟩ | ⟨h2, hmicro'⟩⟩ := step_inversion hstep'
  · rw [hreset, hreset']; rfl
  · exact absurd (h1.symm.trans (hr.trans h2)) nofun
  · exact absurd (h1.symm.trans (hr.trans h2)) nofun
  · have hd : s.ports.doneIn = s'.ports.doneIn := hdone.symm.trans hdone'
    have hq : s.blk.seq = s'.blk.seq := sameSequencing_field Block.seq (fun _ => rfl) hsame
    have hmicroSame : SameSequencing
        (microStep s.params (doneSample s.params s.ports.doneIn) (portRequest s).start s.blk)
        (microStep s'.params (doneSample s'.params s'.ports.doneIn) (portRequest s').start s'.blk) := by
      rw [← hparams, ← hd]
      by_cases hidle : s'.blk.seq = .idle
      · rw [portRequest_start_eq_startAsked (hq.trans hidle), portRequest_start_eq_startAsked hidle, ← hstart, hstart']
        exact sameSequencing_microStep _ _ _ hsame
      · rw [microStep_busy _ _ _ (portRequest s).start s'.blk hidle]
        exact sameSequencing_microStep _ _ _ hsame
    exact hmicro.trans (hmicroSame.trans hmicro'.symm)

/-- Settles O49: each tick keeps the agreement, so a run does. -/
theorem monitorSideInfluencesNothingElse : Obligations.MonitorSideInfluencesNothingElse := by
  unfold Obligations.MonitorSideInfluencesNothingElse
  intro n
  induction n with
  | zero => exact fun s s' _ hsame _ => ⟨s, s', rfl, rfl, hsame⟩
  | succ n ih =>
    intro s s' hparams hsame hin
    obtain ⟨t, hstep⟩ := step_next s
    obtain ⟨t', hstep'⟩ := step_next s'
    obtain ⟨hp, hinputs, -⟩ := step_inversion hstep
    obtain ⟨hp', hinputs', -⟩ := step_inversion hstep'
    rw [ticks_succ n hstep, ticks_succ n hstep']
    refine ih t t' (by rw [hp, hp', hparams]) ?_ fun k hk => ?_
    · exact step_keeps_sameSequencing hparams hsame (hin 0 (by omega)) hstep hstep'
    · rw [hinputs, hinputs']
      exact hin (k + 1) (by omega)

end Sys2Proof.Machine
end

section
/-! SUPPORT. The three operations tick by tick: the block in each state of a run that starts with an accepted command
(R105, R110, R127, R129), and how `RST_PROG` ends (R128, R183, R217). -/

namespace Sys2Proof.Machine

/-! ### Runs of an operation, phase by phase -/

/-- The state behind `Reached`: its block is the given one but for the monitor's side. -/
theorem Reached.exists_state {s : State} {k : Nat} {c : Block} (h : Reached s k c) :
    ∃ t, ticks k s = .next t ∧ t.params = s.params ∧
      t.blk = { c with doneLatch := t.blk.doneLatch, armed := t.blk.armed, donePrev := t.blk.donePrev } := by
  obtain ⟨t, hrun, hparams, -, hsame⟩ := h
  refine ⟨t, hrun, hparams, ?_⟩
  have hblank : t.blk.sequencing = c.sequencing := hsame
  exact congrArg (fun x : Block => { x with
    doneLatch := t.blk.doneLatch, armed := t.blk.armed, donePrev := t.blk.donePrev }) hblank

/-- A run from an accepted command follows a description `At` of the operation's states, if the acceptance gives the
first and each micro-step gives the next, from busy blocks. -/
theorem reached_of_phases {s : State} {At : Nat → Block → Prop} (i : Instr) {op : Operation}
    (hop : operationOf i = some op) (hidle : s.blk.seq = .idle) (hpres : presents s.ports i = true)
    (hfirst : At 1 (startOperation (some op) s.blk)) {k : Nat} (hk : 1 ≤ k) (hnr : NoReset s k)
    (hnext : ∀ j c, j < k → At j c → 1 ≤ j →
      c.seq ≠ .idle ∧ At (j + 1) (microStep s.params (doneAt s j) none c)) :
    ∃ c, At k c ∧ Reached s k c := by
  induction k, hk using Nat.le_induction with
  | base => exact ⟨_, hfirst, reached_start i op hop hidle hpres⟩
  | succ k hk ih =>
    obtain ⟨c, hat, hreached⟩ := ih (fun j hj => hnr j (by omega)) fun j c hj => hnext j c (by omega)
    obtain ⟨hbusy, hat'⟩ := hnext k c (by omega) hat hk
    exact ⟨_, hat', reached_succ hreached (hnr k (by omega)) hbusy rfl⟩

/-! ### `REL_FPGA` -/

/-- The block in state `k` after an accepted `REL_FPGA` (R105). -/
inductive RelFpgaAt (p : Params) (b : Block) : Nat → Block → Prop
  | before : RelFpgaAt p b 0 b
  | hiz : RelFpgaAt p b 1 (startRelFpga b)
  | enable : RelFpgaAt p b 2 (microRfHiz (startRelFpga b))
  | settle (k : Nat) (hlo : 3 ≤ k) (hhi : k < p.settleTicks + 3) :
      RelFpgaAt p b k { microRfEn p (microRfHiz (startRelFpga b)) with timer := p.settleTicks + 3 - k }
  | done : RelFpgaAt p b (p.settleTicks + 3)
      { microRfEn p (microRfHiz (startRelFpga b)) with timer := 0, seq := .idle }

theorem RelFpgaAt.next {p : Params} {b c : Block} {k : Nat} (h : RelFpgaAt p b k c) (hp : p.wf = true) (d : Bool)
    (hlo : 1 ≤ k) (hhi : k < p.settleTicks + 3) :
    c.seq ≠ .idle ∧ RelFpgaAt p b (k + 1) (microStep p d none c) := by
  obtain ⟨hsettle, -⟩ := params_wf_spec hp
  cases h with
  | before => omega
  | hiz => exact ⟨nofun, .enable⟩
  | enable => exact ⟨nofun, .settle 3 le_rfl (by omega)⟩
  | settle k hlo hhi =>
    refine ⟨nofun, ?_⟩
    rw [microStep_of_rfSettle _ _ _ rfl]
    by_cases hlast : k + 1 < p.settleTicks + 3
    · rw [(waitTick_spec _ _).1 (by show 1 < p.settleTicks + 3 - k; omega)]
      exact .settle (k + 1) (by omega) hlast
    · obtain rfl : k = p.settleTicks + 2 := by omega
      rw [(waitTick_spec _ _).2 (by show p.settleTicks + 3 - (p.settleTicks + 2) ≤ 1; omega)]
      exact .done
  | done => omega

/-- Settles O41: read at each phase of the run. -/
theorem relFpgaTiming : Obligations.RelFpgaTiming := by
  unfold Obligations.RelFpgaTiming
  intro s hp hidle hpres hnr k hk
  have hphase : ∃ c, RelFpgaAt s.params s.blk k c ∧ Reached s k c := by
    obtain rfl | hpos := Nat.eq_zero_or_pos k
    · exact ⟨_, .before, reached_zero s⟩
    · exact reached_of_phases .relFpga rfl hidle hpres .hiz hpos (fun j hj => hnr j (by omega))
        fun j c hj hat hlo => hat.next hp _ hlo (by omega)
  obtain ⟨c, hat, hreached⟩ := hphase
  obtain ⟨t, hrun, -, hblk⟩ := hreached.exists_state
  refine ⟨t, hrun, ?_⟩
  rw [hblk]
  cases hat with
  | before => simp [busy, hidle]
  | hiz => simp [busy]
  | enable => simp [busy]
  | settle k hlo hhi => simp (disch := omega) [busy, if_pos]; omega
  | done => simp [busy]

/-! ### `REL_MCU` -/

/-- The block in state `k` after an accepted `REL_MCU` (R110). -/
inductive RelMcuAt (p : Params) (b : Block) : Nat → Block → Prop
  | before : RelMcuAt p b 0 b
  | disable : RelMcuAt p b 1 (startRelMcu b)
  | settle (k : Nat) (hlo : 2 ≤ k) (hhi : k < p.settleTicks + 2) :
      RelMcuAt p b k { microRmDis p (startRelMcu b) with timer := p.settleTicks + 2 - k }
  | pins : RelMcuAt p b (p.settleTicks + 2) { microRmDis p (startRelMcu b) with timer := 0, seq := .rmPins }
  | done : RelMcuAt p b (p.settleTicks + 3)
      { microRmDis p (startRelMcu b) with timer := 0, pinDrv := 0b1111#4, seq := .idle }

theorem RelMcuAt.next {p : Params} {b c : Block} {k : Nat} (h : RelMcuAt p b k c) (hp : p.wf = true) (d : Bool)
    (hlo : 1 ≤ k) (hhi : k < p.settleTicks + 3) :
    c.seq ≠ .idle ∧ RelMcuAt p b (k + 1) (microStep p d none c) := by
  obtain ⟨hsettle, -⟩ := params_wf_spec hp
  cases h with
  | before => omega
  | disable => exact ⟨nofun, .settle 2 le_rfl (by omega)⟩
  | settle k hlo hhi =>
    refine ⟨nofun, ?_⟩
    rw [microStep_of_rmSettle _ _ _ rfl]
    by_cases hlast : k + 1 < p.settleTicks + 2
    · rw [(waitTick_spec _ _).1 (by show 1 < p.settleTicks + 2 - k; omega)]
      exact .settle (k + 1) (by omega) hlast
    · obtain rfl : k = p.settleTicks + 1 := by omega
      rw [(waitTick_spec _ _).2 (by show p.settleTicks + 2 - (p.settleTicks + 1) ≤ 1; omega)]
      exact .pins
  | pins => exact ⟨nofun, .done⟩
  | done => omega

/-- Settles O42: read at each phase of the run. -/
theorem relMcuTiming : Obligations.RelMcuTiming := by
  unfold Obligations.RelMcuTiming
  intro s hp hidle hpres hnr k hk
  have hphase : ∃ c, RelMcuAt s.params s.blk k c ∧ Reached s k c := by
    obtain rfl | hpos := Nat.eq_zero_or_pos k
    · exact ⟨_, .before, reached_zero s⟩
    · exact reached_of_phases .relMcu rfl hidle hpres .disable hpos (fun j hj => hnr j (by omega))
        fun j c hj hat hlo => hat.next hp _ hlo (by omega)
  obtain ⟨c, hat, hreached⟩ := hphase
  obtain ⟨t, hrun, -, hblk⟩ := hreached.exists_state
  refine ⟨t, hrun, ?_⟩
  rw [hblk]
  cases hat with
  | before => simp [busy, hidle]
  | disable => simp [busy]
  | settle k hlo hhi => simp (disch := omega) [busy, if_pos, if_neg]; omega
  | pins => simp [busy]
  | done => simp [busy]

/-! ### `RST_PROG` -/

/-- The state of the first done sample, as `p0` in the statements (R129). -/
def firstSample (p : Params) : Nat := p.settleTicks + p.pulseTicks + 6

/-- The block when `RST_PROG` has claimed the bus and its settle delay begins (R103, R123). -/
def busClaimed (p : Params) (b : Block) : Block := microRfEn p (microRfHiz (microSqMode (startRstProg b)))

/-- The block when the pulse begins (R124). -/
def pulseBegun (p : Params) (b : Block) : Block := microSqOut p { busClaimed p b with timer := 0, seq := .sqOut }

/-- The block at the first done sample (R126). -/
def resetReleased (p : Params) (b : Block) : Block := microSqHigh { pulseBegun p b with timer := 0, seq := .sqHigh }

/-- The block in state `k` after an accepted `RST_PROG`, as long as the poll goes on (R129). -/
inductive RstProgAt (p : Params) (b : Block) : Nat → Block → Prop
  | mode : RstProgAt p b 1 (startRstProg b)
  | hiz : RstProgAt p b 2 (microSqMode (startRstProg b))
  | enable : RstProgAt p b 3 (microRfHiz (microSqMode (startRstProg b)))
  | settle (k : Nat) (hlo : 4 ≤ k) (hhi : k < p.settleTicks + 4) :
      RstProgAt p b k { busClaimed p b with timer := p.settleTicks + 4 - k }
  | out : RstProgAt p b (p.settleTicks + 4) { busClaimed p b with timer := 0, seq := .sqOut }
  | low (k : Nat) (hlo : p.settleTicks + 5 ≤ k) (hhi : k < p.settleTicks + p.pulseTicks + 5) :
      RstProgAt p b k { pulseBegun p b with timer := p.settleTicks + p.pulseTicks + 5 - k }
  | high : RstProgAt p b (p.settleTicks + p.pulseTicks + 5) { pulseBegun p b with timer := 0, seq := .sqHigh }
  | poll (k n : Nat) (hlo : firstSample p ≤ k) (hn : n = if p.timeoutTicks = none then 0 else k - firstSample p) :
      RstProgAt p b k { resetReleased p b with pollCnt := n }

section
variable {p : Params} {b c : Block} {k : Nat}

/-- A failed sample that is not the last one allowed. -/
theorem pollFailed_below_timeout {n : Nat} (hq : c.pollCnt = if p.timeoutTicks = none then 0 else n)
    (ht : ∀ T, p.timeoutTicks = some T → n + 1 < T) :
    pollFailed p c = { c with pollCnt := if p.timeoutTicks = none then 0 else n + 1 } := by
  obtain ⟨hbaseline, -, hcount⟩ := pollFailed_spec p c
  cases hT : p.timeoutTicks with
  | none =>
    rw [hT, if_pos rfl] at hq
    rw [hbaseline hT, if_pos rfl, ← hq]
  | some T =>
    rw [hT, if_neg nofun] at hq
    rw [hcount T hT (by rw [hq]; exact ht T hT), if_neg nofun, hq]

theorem RstProgAt.busy (h : RstProgAt p b k c) : c.seq ≠ .idle := by
  cases h <;> exact nofun

/-- The operation goes on as long as the samples fail and the next one does not time out. -/
theorem RstProgAt.next (h : RstProgAt p b k c) (hp : p.wf = true) (d : Bool) (hd : firstSample p ≤ k → d = false)
    (ht : ∀ T, p.timeoutTicks = some T → k + 1 < firstSample p + T) :
    RstProgAt p b (k + 1) (microStep p d none c) := by
  obtain ⟨hsettle, hpulse, -⟩ := params_wf_spec hp
  cases h with
  | mode => exact .hiz
  | hiz => exact .enable
  | enable => exact .settle 4 le_rfl (by omega)
  | settle k hlo hhi =>
    rw [microStep_of_rfSettle _ _ _ rfl]
    by_cases hlast : k + 1 < p.settleTicks + 4
    · rw [(waitTick_spec _ _).1 (by show 1 < p.settleTicks + 4 - k; omega)]
      exact .settle (k + 1) (by omega) hlast
    · obtain rfl : k = p.settleTicks + 3 := by omega
      rw [(waitTick_spec _ _).2 (by show p.settleTicks + 4 - (p.settleTicks + 3) ≤ 1; omega)]
      exact .out
  | out =>
    have hlow := RstProgAt.low (b := b) (p.settleTicks + 5) le_rfl (by omega)
    rwa [show p.settleTicks + p.pulseTicks + 5 - (p.settleTicks + 5) = p.pulseTicks by omega] at hlow
  | low k hlo hhi =>
    rw [microStep_of_sqLow _ _ _ rfl]
    by_cases hlast : k + 1 < p.settleTicks + p.pulseTicks + 5
    · rw [(waitTick_spec _ _).1 (by show 1 < p.settleTicks + p.pulseTicks + 5 - k; omega)]
      exact .low (k + 1) (by omega) hlast
    · obtain rfl : k = p.settleTicks + p.pulseTicks + 4 := by omega
      rw [(waitTick_spec _ _).2 (by
        show p.settleTicks + p.pulseTicks + 5 - (p.settleTicks + p.pulseTicks + 4) ≤ 1; omega)]
      exact .high
  | high => exact .poll (firstSample p) 0 le_rfl (by rw [Nat.sub_self, ite_self])
  | poll k n hlo hn =>
    rw [microStep_of_sqPoll _ _ _ rfl, hd hlo, if_neg Bool.false_ne_true,
      pollFailed_below_timeout hn fun T hT => by have := ht T hT; omega]
    exact .poll (k + 1) _ (by omega) (by rw [Nat.sub_add_comm hlo])

/-- From the first sample on, the block is the one that polls. -/
theorem RstProgAt.polling (h : RstProgAt p b k c) (hk : firstSample p ≤ k) :
    c = { resetReleased p b with pollCnt := if p.timeoutTicks = none then 0 else k - firstSample p } := by
  unfold firstSample at hk
  cases h with
  | poll k n hlo hn => rw [hn]
  | _ => omega

/-- As long as the operation goes on, the sequencer is in `resetAndProgram()` and the flag is clear (R22, R30). -/
theorem RstProgAt.inRp_cfgTimeout (h : RstProgAt p b k c) : c.inRp = true ∧ c.cfgTimeout = false := by
  cases h <;> exact ⟨rfl, rfl⟩

/-- Nothing is counted in the baseline (R32). -/
theorem RstProgAt.pollCnt_baseline (h : RstProgAt p b k c) (hT : p.timeoutTicks = none) (hb : b.pollCnt = 0) :
    c.pollCnt = 0 := by
  cases h with
  | poll k n hlo hn => rw [hn, if_pos hT]
  | _ => exact hb

/-- When mode-select and the bus are taken (R121). -/
theorem RstProgAt.claim (h : RstProgAt p b k c) :
    c.modeSet = (if 2 ≤ k then true else b.modeSet) ∧ c.pinDrv = (if 3 ≤ k then 0b0000#4 else b.pinDrv) ∧
    c.driveEn = (if 4 ≤ k then true else b.driveEn) ∧ c.owner = (if 4 ≤ k then .fpga else b.owner) := by
  cases h with
  | mode | hiz | enable => exact ⟨rfl, rfl, rfl, rfl⟩
  | poll k n hlo _ =>
    unfold firstSample at hlo
    exact ⟨(if_pos (by omega)).symm, (if_pos (by omega)).symm, (if_pos (by omega)).symm, (if_pos (by omega)).symm⟩
  | settle | out | low | high =>
    exact ⟨(if_pos (by omega)).symm, (if_pos (by omega)).symm, (if_pos (by omega)).symm, (if_pos (by omega)).symm⟩

/-- When the line is low and when it is released, and what the FPGA's state is then (R124, R126). -/
theorem RstProgAt.line (h : RstProgAt p b k c) :
    progPin c = (if k < p.settleTicks + 5 then progPin b
      else if k ≤ p.settleTicks + p.pulseTicks + 5 then some false else some true) ∧
    c.fpgaState = (if k < p.settleTicks + 5 then b.fpgaState
      else if k ≤ p.settleTicks + p.pulseTicks + 5 then .inReset else .loading) := by
  cases h with
  | mode | hiz | enable | settle | out => exact ⟨(if_pos (by omega)).symm, (if_pos (by omega)).symm⟩
  | low | high =>
    exact ⟨((if_neg (by omega)).trans (if_pos (by omega))).symm, ((if_neg (by omega)).trans (if_pos (by omega))).symm⟩
  | poll k n hlo _ =>
    unfold firstSample at hlo
    exact ⟨((if_neg (by omega)).trans (if_neg (by omega))).symm, ((if_neg (by omega)).trans (if_neg (by omega))).symm⟩

/-- The poll begins at the first sample. -/
theorem RstProgAt.seq_eq_sqPoll (h : RstProgAt p b k c) : c.seq = .sqPoll ↔ firstSample p ≤ k := by
  unfold firstSample
  cases h with
  | poll k n hlo _ => exact ⟨fun _ => hlo, fun _ => rfl⟩
  | _ => exact ⟨nofun, fun _ => by omega⟩

end

/-- The run from an accepted `RST_PROG`, up to any state before which no sample succeeded and none timed out. -/
theorem reached_rstProg {s : State} (hp : s.params.wf = true) (hidle : s.blk.seq = .idle)
    (hpres : presents s.ports .rstProg = true) {k : Nat} (hk : 1 ≤ k) (hnr : NoReset s k)
    (hd : ∀ j, firstSample s.params ≤ j → j < k → doneAt s j = false)
    (ht : ∀ T, s.params.timeoutTicks = some T → k < firstSample s.params + T) :
    ∃ c, RstProgAt s.params s.blk k c ∧ Reached s k c :=
  reached_of_phases .rstProg rfl hidle hpres .mode hk hnr fun j _ hj hat _ =>
    ⟨hat.busy, hat.next hp _ (fun hlo => hd j hlo hj) fun T hT => by have := ht T hT; omega⟩

/-- Samples numbered from the first one, as the statements number them. -/
theorem doneAt_false_of_samples {s : State} {p0 m k : Nat} (hd : ∀ j, j < m → doneAt s (p0 + j) = false)
    (hk : k ≤ p0 + m) (j : Nat) (hlo : p0 ≤ j) (hhi : j < k) : doneAt s j = false := by
  have hsample := hd (j - p0) (by omega)
  rwa [Nat.add_sub_cancel' hlo] at hsample

/-- Settles O43: the run follows the phases up to the first sample. -/
theorem rstProgTiming : Obligations.RstProgTiming := by
  unfold Obligations.RstProgTiming
  rintro s L P hp rfl rfl hidle hpres hnr k hlo hhi
  obtain ⟨-, -, htimeout, -⟩ := params_wf_spec hp
  change k ≤ firstSample s.params at hhi
  obtain ⟨c, hat, hreached⟩ := reached_rstProg hp hidle hpres hlo (fun j hj => hnr j (hj.trans_le hhi))
    (fun j h1 h2 => absurd (h1.trans_lt h2) hhi.not_gt)
    (fun T hT => by have := htimeout T hT; omega)
  obtain ⟨t, hrun, -, hblk⟩ := hreached.exists_state
  obtain ⟨hrp, hflag⟩ := hat.inRp_cfgTimeout
  obtain ⟨hmode, hpins, hdrive, howner⟩ := hat.claim
  obtain ⟨hline, hfpga⟩ := hat.line
  refine ⟨t, hrun, ?_⟩
  rw [hblk]
  exact ⟨(busy_eq_true _).2 hat.busy, hrp, hflag, hmode, hpins, hdrive, howner, hline, hfpga,
    hat.seq_eq_sqPoll.trans ⟨hhi.antisymm, Eq.ge⟩⟩

/-! ### How `RST_PROG` ends -/

/-- Settles O45: the run follows the phases up to the successful sample, and that ends it. -/
theorem rstProgSucceedsWhenDoneComesInTime : Obligations.RstProgSucceedsWhenDoneComesInTime := by
  unfold Obligations.RstProgSucceedsWhenDoneComesInTime
  intro s p0 m hp hp0 hidle hpres hnr hfail hdone htime
  obtain rfl : p0 = firstSample s.params := hp0
  have hphase (k : Nat) (hlo : 1 ≤ k) (hhi : k ≤ firstSample s.params + m) :
      ∃ c, RstProgAt s.params s.blk k c ∧ Reached s k c :=
    reached_rstProg hp hidle hpres hlo (fun j hj => hnr j (by omega)) (doneAt_false_of_samples hfail hhi)
      fun T hT => by have := htime T hT; omega
  constructor
  · intro k hlo hhi
    obtain ⟨c, hat, hreached⟩ := hphase k hlo hhi
    obtain ⟨t, hrun, -, hblk⟩ := hreached.exists_state
    exact ⟨t, hrun, by rw [hblk]; exact (busy_eq_true _).2 hat.busy⟩
  · obtain ⟨c, hat, hreached⟩ := hphase (firstSample s.params + m) (by unfold firstSample; omega) le_rfl
    obtain rfl := hat.polling (by omega)
    have hend := reached_succ hreached (hnr _ (by omega)) hat.busy (microStep_of_sqPoll _ _ _ rfl)
    rw [hdone, if_pos rfl] at hend
    obtain ⟨t, hrun, -, hblk⟩ := hend.exists_state
    refine ⟨t, hrun, ?_⟩
    rw [hblk]
    exact ⟨rfl, rfl, rfl, rfl, rfl, rfl, rfl, rfl, rfl, rfl, rfl⟩

/-- Settles O46: the run follows the phases up to the last failed sample, and that ends it. -/
theorem configurationTimeoutIsExact : Obligations.ConfigurationTimeoutIsExact := by
  unfold Obligations.ConfigurationTimeoutIsExact
  intro s p0 T hp hp0 hT hidle hpres hnr hfail
  obtain rfl : p0 = firstSample s.params := hp0
  obtain ⟨-, -, htimeout, -⟩ := params_wf_spec hp
  have hpos : 1 ≤ T := htimeout T hT
  have hphase (k : Nat) (hlo : 1 ≤ k) (hhi : k < firstSample s.params + T) :
      ∃ c, RstProgAt s.params s.blk k c ∧ Reached s k c :=
    reached_rstProg hp hidle hpres hlo (fun j hj => hnr j (by omega)) (doneAt_false_of_samples hfail hhi.le)
      fun T' hT' => by rwa [← Option.some.inj (hT.symm.trans hT')]
  constructor
  · intro k hlo hhi
    obtain ⟨c, hat, hreached⟩ := hphase k hlo hhi
    obtain ⟨t, hrun, -, hblk⟩ := hreached.exists_state
    obtain ⟨-, hflag⟩ := hat.inRp_cfgTimeout
    refine ⟨t, hrun, ?_⟩
    rw [hblk]
    exact ⟨(busy_eq_true _).2 hat.busy, hflag⟩
  · obtain ⟨n, rfl⟩ := Nat.exists_eq_add_of_le' hpos
    obtain ⟨c, hat, hreached⟩ := hphase (firstSample s.params + n) (by unfold firstSample; omega) (by omega)
    obtain rfl := hat.polling (by omega)
    have hend := reached_succ hreached (hnr _ (by omega)) hat.busy (microStep_of_sqPoll _ _ _ rfl)
    obtain ⟨-, hexit, -⟩ := pollFailed_spec s.params { resetReleased s.params s.blk with
      pollCnt := if s.params.timeoutTicks = none then 0 else firstSample s.params + n - firstSample s.params }
    rw [hfail n (by omega), if_neg Bool.false_ne_true, hexit (n + 1) hT (by simp [hT])] at hend
    obtain ⟨t, hrun, -, hblk⟩ := hend.exists_state
    refine ⟨t, hrun, ?_⟩
    rw [hblk]
    exact ⟨rfl, rfl, rfl, rfl, rfl, rfl⟩

/-- Settles O47: without a timeout the phases go on for ever, and a busy block rejects every blocking command. -/
theorem baselinePollNeverEnds : Obligations.BaselinePollNeverEnds := by
  unfold Obligations.BaselinePollNeverEnds
  intro s p0 n hp hp0 hT hidle hcnt hpres hnr hfail
  obtain rfl : p0 = firstSample s.params := hp0
  obtain ⟨c, hat, hreached⟩ := reached_rstProg hp hidle hpres (by omega) hnr
    (fun j hlo hhi => hfail j hlo (by omega)) (fun T hsome => absurd (hT.symm.trans hsome) nofun)
  obtain ⟨t, hrun, -, hblk⟩ := hreached.exists_state
  obtain ⟨-, hflag⟩ := hat.inRp_cfgTimeout
  have hbusy : t.blk.seq ≠ .idle := by rw [hblk]; exact hat.busy
  refine ⟨t, hrun, (busy_eq_true _).2 hbusy, ?count, ?flag, fun hlo => ?poll, fun i hi => ?reject, ?isProg⟩
  case count => rw [hblk]; exact hat.pollCnt_baseline hT hcnt
  case flag => rw [hblk]; exact hflag
  case poll =>
    obtain rfl := hat.polling hlo
    rw [hblk]
    exact ⟨rfl, rfl⟩
  case reject => exact ⟨_, exec_of_blocking_busy (classOf_eq_blocking_of_mem hi) hbusy, rfl⟩
  case isProg => exact ⟨_, exec_eq_runTick .isProg t, rfl, rfl⟩

/-! ### The pulse -/

/-- Settles O44: `SQ_OUT` loads the timer with the pulse count, the wait keeps the line low for exactly so many states,
and `SQ_HIGH` is one state more. -/
theorem pulseLastsAtLeastItsMinimum : Obligations.PulseLastsAtLeastItsMinimum := by
  unfold Obligations.PulseLastsAtLeastItsMinimum
  intro s hp hq hnr
  obtain ⟨-, hpulse, -, -, -, hns⟩ := params_wf_spec hp
  have hout : Reached s 1 (microSqOut s.params s.blk) :=
    reached_succ (reached_zero s) (hnr 0 (by omega)) (by simp [hq]) (microStep_of_sqOut _ _ _ hq)
  have hwait (p : Params) (d : Bool) (c : Block) (hc : c.seq = (microSqOut s.params s.blk).seq)
      (_ : c.inRp = (microSqOut s.params s.blk).inRp) :
      microStep p d none c = waitTick .sqHigh c := microStep_of_sqLow _ _ _ hc
  have hhigh : Reached s (1 + s.params.pulseTicks) { microSqOut s.params s.blk with timer := 0, seq := .sqHigh } :=
    reached_wait_end .sqHigh hwait nofun hout hpulse fun i (hi : i < s.params.pulseTicks) => hnr _ (by omega)
  refine ⟨fun k hlo hhi => ?low, ?high, ?ns⟩
  case low =>
    obtain ⟨j, rfl⟩ := Nat.exists_eq_add_of_le hlo
    have hlow : ∃ c, Reached s (1 + j) c ∧ progPin c = some false := by
      obtain hlt | rfl : j < s.params.pulseTicks ∨ j = s.params.pulseTicks := by omega
      · exact ⟨_, reached_wait .sqHigh hwait nofun hout j hlt fun i hi => hnr _ (by omega), rfl⟩
      · exact ⟨_, hhigh, rfl⟩
    obtain ⟨c, hreached, hpin⟩ := hlow
    obtain ⟨t, hrun, -, hblk⟩ := hreached.exists_state
    exact ⟨t, hrun, by rw [hblk]; exact hpin⟩
  case high =>
    have hend := reached_succ hhigh (hnr _ (by omega)) nofun (microStep_of_sqHigh _ _ _ rfl)
    rw [show 1 + s.params.pulseTicks + 1 = s.params.pulseTicks + 2 by omega] at hend
    obtain ⟨t, hrun, -, hblk⟩ := hend.exists_state
    exact ⟨t, hrun, by rw [hblk]; rfl⟩
  case ns =>
    rw [Nat.add_mul, Nat.one_mul]
    exact Nat.add_le_add_right hns _

end Sys2Proof.Machine
end

section
/-! SUPPORT. The parameters of the reset state (R7 to R11), the step and its totality (R170, R200), the monitor's three
writing commands (R143, R145, R146), the micro-steps left (R104, R108, R109, R125, R128) and the pins (R171). -/

namespace Sys2Proof.Machine

/-! ### The free parameters -/

/-- The least number of ticks is enough, and at least one (R8, R9). -/
theorem ticksFor_spec (ns : Nat) : ns ≤ Config.ticksFor ns * Config.tickNs ∧ (1 ≤ ns → 1 ≤ Config.ticksFor ns) := by
  have hpos : 0 < Config.tickNs := Nat.succ_pos _
  have henough : ns ≤ Config.ticksFor ns * Config.tickNs := by
    have hdiv := Nat.div_add_mod (ns + Config.tickNs - 1) Config.tickNs
    have hmod := Nat.mod_lt (ns + Config.tickNs - 1) hpos
    rw [Config.ticksFor, Nat.mul_comm]
    omega
  refine ⟨henough, fun hns => Nat.one_le_iff_ne_zero.2 fun hzero => ?_⟩
  rw [hzero, Nat.zero_mul] at henough
  omega

/-- More ticks last longer. -/
theorem enough_of_slack {ns n t : Nat} (slack : Nat) (h : ns ≤ n * t) : ns ≤ (n + slack) * t :=
  h.trans (Nat.mul_le_mul_right t (Nat.le_add_right n slack))

/-- Every count fits the width that the construction gives (R11). -/
theorem timerWidth_fits : Config.params.maxCount < 2 ^ Config.timerWidth :=
  Nat.lt_log2_self.trans_le (Nat.pow_le_pow_right Nat.two_pos (Nat.le_add_right _ _))

theorem timeoutOk_params : Config.params.timeoutOk = true := by
  have hT : Config.params.timeoutTicks = Config.timeoutSlack.map (· + 1) := rfl
  cases hslack : Config.timeoutSlack with
  | none => rw [Params.timeoutOk, hT, hslack]; rfl
  | some n =>
    rw [Params.timeoutOk, hT, hslack]
    exact decide_eq_true (Nat.succ_pos n)

theorem params_wf : Config.params.wf = true := by
  obtain ⟨hsettle, hsettlePos⟩ := ticksFor_spec 1000000
  obtain ⟨hpulse, hpulsePos⟩ := ticksFor_spec 50000
  have htick : Config.params.tickOk = true := decide_eq_true (Nat.succ_pos _)
  have hsettleOk : Config.params.settleOk = true := by
    rw [Params.settleOk, Bool.and_eq_true, decide_eq_true_eq, decide_eq_true_eq]
    exact ⟨(hsettlePos (by omega)).trans (Nat.le_add_right _ _), enough_of_slack _ hsettle⟩
  have hpulseOk : Config.params.pulseOk = true := by
    rw [Params.pulseOk, Bool.and_eq_true, decide_eq_true_eq, decide_eq_true_eq]
    exact ⟨(hpulsePos (by omega)).trans (Nat.le_add_right _ _), enough_of_slack _ hpulse⟩
  have hmodeSel : Config.params.modeSelOk = true := decide_eq_true (Nat.succ_pos _)
  have hwidth : Config.params.timerWidthOk = true := decide_eq_true timerWidth_fits
  rw [Params.wf, htick, hsettleOk, hpulseOk, timeoutOk_params, hmodeSel, hwidth]
  rfl

/-- Settles O30: each constraint holds by the construction of its parameter, for all values of the free constants. -/
theorem openParametersAreAdmissible : Obligations.OpenParametersAreAdmissible := by
  unfold Obligations.OpenParametersAreAdmissible
  exact ⟨params_wf, rfl, rfl⟩

/-! ### The commands and the step -/

/-- The encoder loses nothing of a command (R82). -/
theorem decodeCmd_encode (i : Instr) : decodeCmd (encode i) = i := by
  cases i <;> rfl

/-- Settles O2. -/
theorem decodeAndEncodeAgree : Obligations.DecodeAndEncodeAgree := by
  unfold Obligations.DecodeAndEncodeAgree
  exact ⟨fun i _ => decodeCmd_encode i, encode_decodeCmd⟩

/-- Settles O3: every meaning answers a next state, and the step is that state with the next inputs on the ports. -/
theorem stepRunsTheDecodedCommand : Obligations.StepRunsTheDecodedCommand := by
  unfold Obligations.StepRunsTheDecodedCommand
  rintro s i hrst hvalid rfl
  have hexec := exec_eq_runTick (decodeCmd s.ports.cmd) s
  refine ⟨rfl, fun t ht => ?_, fun r hr => absurd (hexec.symm.trans hr) nofun,
    fun r hr => absurd (hexec.symm.trans hr) nofun⟩
  obtain rfl := Host.Outcome.next.inj (hexec.symm.trans ht)
  rw [step_run s hrst, portRequest_command hvalid]
  rfl

/-- Settles O4: a reset step and a tick both answer a next state and leave the inputs to `advance`. -/
theorem stepNeverStops : Obligations.StepNeverStops := by
  unfold Obligations.StepNeverStops
  intro s
  cases hrst : s.ports.rst with
  | true => exact ⟨_, step_reset s hrst, rfl, rfl, rfl, rfl⟩
  | false => exact ⟨_, step_run s hrst, rfl, rfl, rfl, rfl⟩

/-- Settles O6: the step is the reset tick, and `RESET_STATE` drives nothing. -/
theorem resetTickGivesResetState : Obligations.ResetTickGivesResetState := by
  unfold Obligations.ResetTickGivesResetState
  intro s hrst
  exact ⟨_, step_reset s hrst, rfl, rfl, rfl, rfl⟩

/-- Settles O7. -/
theorem runStartsIdleAndUndriven : Obligations.RunStartsIdleAndUndriven := by
  unfold Obligations.RunStartsIdleAndUndriven
  exact ⟨rfl, fun p => ⟨rfl, rfl, rfl, rfl⟩⟩

/-! ### The monitor's writing commands -/

/-- An arm request is the tick without a command with `armed` set on top (R143). -/
theorem runTick_arm (s : State) (code : RspCode) (data : Data) :
    runTick s { Request.respond code data with arm := true } = { quietTick s with
      blk := { (quietTick s).blk with armed := true }
      out := { rspValid := true, rspCode := code, rspData := data, monEvt := (quietTick s).out.monEvt } } := rfl

/-- A clear request leaves the edge and nothing else in the latch (R68, R71). -/
theorem mergeLatch_clr (edge latch : Bool) : mergeLatch edge true latch = edge := by
  cases edge with
  | true => exact mergeLatch_edge _ _
  | false => exact mergeLatch_clear _

/-- A clear request is the tick without a command with the edge in the latch (R145, R146). -/
theorem runTick_clr (s : State) (code : RspCode) (data : Data) :
    runTick s { Request.respond code data with clr := true } = { quietTick s with
      blk := { (quietTick s).blk with doneLatch := fallingEdge s.blk s.ports.doneIn }
      out := { rspValid := true, rspCode := code, rspData := data, monEvt := (quietTick s).out.monEvt } } := by
  rw [← mergeLatch_clr (fallingEdge s.blk s.ports.doneIn) s.blk.doneLatch]
  rfl

/-- Settles O11: the command's request is an arm request. -/
theorem armArmsFromTheNextState : Obligations.ArmArmsFromTheNextState := by
  unfold Obligations.ArmArmsFromTheNextState
  refine ⟨rfl, fun s => ?_⟩
  rw [exec_eq_runTick, requestOf, runTick_arm, rspOk]

/-- Settles O12: the command's request is a clear request. -/
theorem clrLatchClearsUnlessEdge : Obligations.ClrLatchClearsUnlessEdge := by
  unfold Obligations.ClrLatchClearsUnlessEdge
  refine ⟨rfl, fun s => ?_⟩
  rw [exec_eq_runTick, requestOf, runTick_clr, rspOk, fallingEdge]

/-- Settles O13: the command's request is a clear request whose data is the pre-state's latch. -/
theorem takeLatchReadsAndClears : Obligations.TakeLatchReadsAndClears := by
  unfold Obligations.TakeLatchReadsAndClears
  refine ⟨rfl, fun s => ?_⟩
  rw [exec_eq_runTick, requestOf, runTick_clr, zextBit_eq, rspOk, fallingEdge]

/-! ### The non-blocking commands -/

/-- A non-blocking command asks for no operation (R83, R163). -/
theorem requestOf_start_of_nonBlocking (s : State) {i : Instr} (h : classOf i = .nonBlocking) :
    (requestOf s i).start = none := by
  cases i with
  | nop | isProg | arm | rdLatch | clrLatch | takeLatch | status => rfl
  | _ => cases h

theorem classOf_eq_nonBlocking_of_mem {i : Instr}
    (h : i ∈ [Instr.nop, Instr.isProg, Instr.arm, Instr.rdLatch, Instr.clrLatch, Instr.takeLatch, Instr.status]) :
    classOf i = .nonBlocking := by
  simp only [List.mem_cons, List.not_mem_nil, or_false] at h
  obtain rfl | rfl | rfl | rfl | rfl | rfl | rfl := h <;> rfl

/-- Settles O18: the request of a non-blocking command is answered `OK` and starts nothing, and the twelve fields depend
on a request through its start alone. -/
theorem nonBlockingNeverDisturbs : Obligations.NonBlockingNeverDisturbs := by
  unfold Obligations.NonBlockingNeverDisturbs
  intro s i hmem
  have hclass : classOf i = .nonBlocking := classOf_eq_nonBlocking_of_mem hmem
  obtain ⟨-, hcode⟩ := requestOf_of_nonBlocking s hclass
  refine ⟨_, exec_eq_runTick i s, hcode, ?_, rfl, rfl, rfl, rfl⟩
  rw [SameSequencing, runTick_blk, quietTick_blk, nextBlock_sequencing, nextBlock_sequencing,
    requestOf_start_of_nonBlocking s hclass]
  rfl

/-! ### The micro-steps -/

/-- Settles O23: the tick's twelve fields are the micro-step's, and that is `RM_PINS`. -/
theorem rmPinsReturnsThePins : Obligations.RmPinsReturnsThePins := by
  unfold Obligations.RmPinsReturnsThePins
  intro s hrst hseq
  obtain ⟨t, hstep, hblk⟩ := step_sameSequencing_microStep hrst
  rw [microStep_of_rmPins _ _ _ hseq] at hblk
  exact ⟨t, hstep, hblk⟩

/-- Each wait state's tick is a tick of the wait, with its own place to go on (R104, R108, R125). -/
theorem microStep_of_wait (p : Params) (d : Bool) (start : Option Operation) {b : Block}
    (hseq : b.seq = .rfSettle ∨ b.seq = .rmSettle ∨ b.seq = .sqLow) :
    ∃ after, microStep p d start b = waitTick after b ∧
      (b.seq = .rfSettle → b.inRp = false → after = .idle) ∧ (b.seq = .rfSettle → b.inRp = true → after = .sqOut) ∧
      (b.seq = .rmSettle → after = .rmPins) ∧ (b.seq = .sqLow → after = .sqHigh) := by
  obtain hq | hq | hq := hseq
  · refine ⟨_, microStep_of_rfSettle _ _ _ hq, fun _ hrp => ?_, fun _ hrp => ?_, ?_, ?_⟩
    · rw [hrp]; rfl
    · rw [hrp]; rfl
    · rw [hq]; exact nofun
    · rw [hq]; exact nofun
  · exact ⟨_, microStep_of_rmSettle _ _ _ hq, by rw [hq]; exact nofun, by rw [hq]; exact nofun, fun _ => rfl,
      by rw [hq]; exact nofun⟩
  · exact ⟨_, microStep_of_sqLow _ _ _ hq, by rw [hq]; exact nofun, by rw [hq]; exact nofun, by rw [hq]; exact nofun,
      fun _ => rfl⟩

/-- Settles O24: the tick's twelve fields are those of one tick of the wait, which counts or goes on. -/
theorem waitStatesCountDown : Obligations.WaitStatesCountDown := by
  unfold Obligations.WaitStatesCountDown
  intro s hrst hseq
  obtain ⟨t, hstep, hblk⟩ := step_sameSequencing_microStep hrst
  obtain ⟨after, hwait, hidle, hout, hpins, hhigh⟩ := microStep_of_wait s.params
    (doneSample s.params s.ports.doneIn) (portRequest s).start hseq
  obtain ⟨hcount, hend⟩ := waitTick_spec after s.blk
  rw [hwait] at hblk
  refine ⟨t, hstep, fun ht => ?_, fun ht => ⟨fun hq hrp => ?_, fun hq hrp => ?_, fun hq => ?_, fun hq => ?_⟩⟩
  · rwa [hcount ht] at hblk
  · rwa [hend ht, hidle hq hrp] at hblk
  · rwa [hend ht, hout hq hrp] at hblk
  · rwa [hend ht, hpins hq] at hblk
  · rwa [hend ht, hhigh hq] at hblk

/-- Settles O28: a true sample takes the success exit, and a false one is a failed sample, with or without a bound. -/
theorem sqPollSamplesDone : Obligations.SqPollSamplesDone := by
  unfold Obligations.SqPollSamplesDone
  intro s hrst hseq
  obtain ⟨t, hstep, hblk⟩ := step_sameSequencing_microStep hrst
  obtain ⟨hbaseline, htimeout, hcount⟩ := pollFailed_spec s.params s.blk
  simp only [microStep_of_sqPoll _ _ _ hseq, doneSample_eq_true] at hblk
  refine ⟨t, hstep, fun hdone => ?_, fun hfail => ⟨fun hT => ?_, fun n hT hn => ?_, fun n hT hn => ?_⟩⟩
  · rwa [if_pos hdone] at hblk
  · rwa [if_neg hfail, hbaseline hT] at hblk
  · rwa [if_neg hfail, htimeout n hT hn] at hblk
  · rwa [if_neg hfail, hcount n hT hn] at hblk

/-! ### The pins -/

/-- The drive-enable pin is at its active level exactly where `drive_en` is 1 (R40). -/
theorem driveEnPin_spec (p : Params) (b : Block) :
    (b.driveEn = true → (pins p b).driveEnPin = p.driveEnActiveLevel) ∧
    (b.driveEn = false → (pins p b).driveEnPin ≠ p.driveEnActiveLevel) := by
  constructor <;> intro h <;> simp [pins, h]

theorem modeSelPin_of_not_modeSet (p : Params) {b : Block} (h : b.modeSet = false) :
    (pins p b).modeSelPin = none := by
  simp [pins, h]

theorem indicator_of_absent {p : Params} (b : Block) (h : p.hasIndicator = false) : (pins p b).indicator = none := by
  simp [pins, h]

/-- Settles O29: pin by pin. -/
theorem pinsShowThePreState : Obligations.PinsShowThePreState := by
  unfold Obligations.PinsShowThePreState
  intro p b
  obtain ⟨hactive, hinactive⟩ := driveEnPin_spec p b
  obtain ⟨hdriven, hfloating⟩ := progPin_spec b
  exact ⟨rfl, hactive, hinactive, modeSelPin_of_modeSet p, modeSelPin_of_not_modeSet p, hdriven, hfloating,
    busy_eq_true b, fun h => (indicator_spec b h).1, indicator_of_absent b, rfl, rfl⟩

end Sys2Proof.Machine
end
